-- ==== Sys2Proof/Word.lean ====
section
/-! DEFINITION. The word types of the TFV (spec 00_scope.md R8: `u8`, `u16`, `u32` are unsigned). -/

namespace Sys2Proof

/-- A command word, `u32` (30_encoding.md R64). -/
abbrev Word := BitVec 32

/-- A wire byte, a buffer cell or a CRC value, `u8` (R8, R21, R80). -/
abbrev Byte := BitVec 8

/-- A distance, an unsigned 16-bit value (R6, R41). -/
abbrev Distance := BitVec 16

/-- The constant CRC table `ROM[0..255]` (10_state.md R24). -/
abbrev Rom := Vector Byte 256

end Sys2Proof
end

