-- ==== Sys2Proof/Syntax.lean ====
section
/-! DEFINITION. The command set: one constructor for each row of spec/opcode_table.json (30_encoding.md R65). -/

namespace Sys2Proof

/-- A command of the block. -/
inductive Instr where
  /-- `FEED b`: offers one received byte (R100). -/
  | feed (b : Byte)
  /-- `DECODE`: one decode attempt (R120). -/
  | decode
  /-- `RSTF`: clears the frame (R152). -/
  | rstf
  /-- `SETMODE m`: sets the channel mode by its 2-bit code and clears the frame (R150). -/
  | setmode (m : BitVec 2)
  /-- `RRCHECK b0, b1, b2`: checks a 3-byte frame (R140). -/
  | rrcheck (b0 b1 b2 : Byte)
  /-- `STATUS`: reads the status byte (R153). -/
  | status
  /-- The reserved mode encoding, OP = 0x4 with M = 3 (R151). -/
  | reservedMode
  /-- A reserved word with OP = 0x0 (R154). -/
  | reservedOp0
  /-- A reserved word with OP = 0x7 (R154). -/
  | reservedOp7
  /-- A reserved word with OP = 0x8 to 0xF; `op` is the low three bits of OP (R154). -/
  | reservedHigh (op : BitVec 3)
deriving DecidableEq, Repr

end Sys2Proof
end

