-- ==== Sys2Proof/WellFormed.lean ====
section
/-! DEFINITION. Which instruction terms the encoding can write (30_encoding.md R66, R69). -/

namespace Sys2Proof

/-- `SETMODE` names one of the three channel modes; `M = 3` is the instruction `reservedMode` instead
(R69, R151). Every other operand field may hold any value of its width (R66). -/
def Instr.wellFormed : Instr → Bool
  | .setmode m => m != 3#2
  | .feed _ => true
  | .decode => true
  | .rstf => true
  | .rrcheck _ _ _ => true
  | .status => true
  | .reservedMode => true
  | .reservedOp0 => true
  | .reservedOp7 => true
  | .reservedHigh _ => true

end Sys2Proof
end

