-- ==== Sys2Proof/Decode.lean ====
section
/-! DEFINITION. Decoding and encoding of command words (30_encoding.md R64 to R69, R74), and the opcode table. -/

namespace Sys2Proof

/-- `OP = w[31:28]` (R64). -/
def opField (w : Word) : BitVec 4 := w.extractLsb' 28 4

/-- `B = B2 = w[7:0]` (R66). -/
def byteField0 (w : Word) : Byte := w.extractLsb' 0 8

/-- `B1 = w[15:8]` (R66). -/
def byteField1 (w : Word) : Byte := w.extractLsb' 8 8

/-- `B0 = w[23:16]` (R66). -/
def byteField2 (w : Word) : Byte := w.extractLsb' 16 8

/-- `M = w[1:0]` (R66). -/
def modeField (w : Word) : BitVec 2 := w.extractLsb' 0 2

/-- Decoding, total over 32-bit words: every word is exactly one command (R74). -/
def decode (w : Word) : Instr :=
  match opField w with
  | 0x0#4 => .reservedOp0
  | 0x1#4 => .feed (byteField0 w)
  | 0x2#4 => .decode
  | 0x3#4 => .rstf
  | 0x4#4 => if modeField w = 3#2 then .reservedMode else .setmode (modeField w)
  | 0x5#4 => .rrcheck (byteField2 w) (byteField1 w) (byteField0 w)
  | 0x6#4 => .status
  | 0x7#4 => .reservedOp7
  | op => .reservedHigh (op.extractLsb' 0 3)

/-- The word the assembler writes: 0 in every ignored bit (R68, R75). A reserved word, for which R75 has no syntax, is
written as its row's pattern, with the three low bits of OP where the row has them. -/
def encode : Instr → Word
  | .feed b => 0x10000000#32 ||| b.setWidth 32
  | .decode => 0x20000000#32
  | .rstf => 0x30000000#32
  | .setmode m => 0x40000000#32 ||| m.setWidth 32
  | .rrcheck b0 b1 b2 => 0x50000000#32 ||| b0.setWidth 32 <<< 16 ||| b1.setWidth 32 <<< 8 ||| b2.setWidth 32
  | .status => 0x60000000#32
  | .reservedMode => 0x40000003#32
  | .reservedOp0 => 0x00000000#32
  | .reservedOp7 => 0x70000000#32
  | .reservedHigh op => 0x80000000#32 ||| op.setWidth 32 <<< 28

/-- A row of spec/opcode_table.json: the bits under `mask` are `pattern`, and `exclude`, where the row has one,
names the words (pattern, mask) that belong to another row (R74). -/
structure OpcodeRow where
  pattern : Word
  mask : Word
  exclude : Option (Word × Word)
deriving DecidableEq, Repr

/-- Does the word belong to the row? -/
def OpcodeRow.covers (r : OpcodeRow) (w : Word) : Bool :=
  w &&& r.mask == r.pattern &&
    match r.exclude with
    | none => true
    | some (p, m) => w &&& m != p

/-- The row of spec/opcode_table.json that a constructor stands for (R74). -/
def Instr.row : Instr → OpcodeRow
  | .feed _ => ⟨0x10000000#32, 0xF0000000#32, none⟩
  | .decode => ⟨0x20000000#32, 0xF0000000#32, none⟩
  | .rstf => ⟨0x30000000#32, 0xF0000000#32, none⟩
  | .setmode _ => ⟨0x40000000#32, 0xF0000000#32, some (0x40000003#32, 0xF0000003#32)⟩
  | .rrcheck _ _ _ => ⟨0x50000000#32, 0xF0000000#32, none⟩
  | .status => ⟨0x60000000#32, 0xF0000000#32, none⟩
  | .reservedMode => ⟨0x40000003#32, 0xF0000003#32, none⟩
  | .reservedOp0 => ⟨0x00000000#32, 0xF0000000#32, none⟩
  | .reservedOp7 => ⟨0x70000000#32, 0xF0000000#32, none⟩
  | .reservedHigh _ => ⟨0x80000000#32, 0x80000000#32, none⟩

/-- The bits of a word that its command reads: OP and the operand fields that R66 does not mark "ignored". -/
def Instr.usedBits : Instr → Word
  | .feed _ => 0xF00000FF#32
  | .setmode _ => 0xF0000003#32
  | .rrcheck _ _ _ => 0xF0FFFFFF#32
  | .reservedMode => 0xF0000003#32
  | .decode => 0xF0000000#32
  | .rstf => 0xF0000000#32
  | .status => 0xF0000000#32
  | .reservedOp0 => 0xF0000000#32
  | .reservedOp7 => 0xF0000000#32
  | .reservedHigh _ => 0xF0000000#32

/-- The command word with the low `nbits` bits of `w` and zeros above them. Command words are whole 32-bit
units (20_memory.md R43), so there is no byte order to choose. -/
def tableWord (nbits w : Nat) : Word := BitVec.ofNat 32 (w % 2 ^ nbits)

/-- What the decoder reads from the bits of a row of spec/opcode_table.json; no row is longer than the one
word a command has (R64). -/
def decodeTableWord (nbits w : Nat) : Option Instr :=
  if nbits ≤ 32 then some (decode (tableWord nbits w)) else none

end Sys2Proof
end

