-- ==== Sys2Proof/Config.lean ====
section
/-! DEFINITION. What the spec leaves to configuration (00_scope.md R7), and the one free value of the model. -/

namespace Sys2Proof

/-- `P_OVERRUN` (00_scope.md R7, 41_stream_feed.md R104, 90_conflicts.md C2). -/
inductive OverrunPolicy where
  /-- The excess byte is dropped and FILL stays 10 (the default). -/
  | hold
  /-- The excess byte is dropped and FILL becomes 0 at once. -/
  | restart
deriving DecidableEq, Repr

/-- `P_REPL2` (00_scope.md R7, 42_stream_decode.md R124). -/
inductive LaneOrder where
  /-- `[v0, v1, v0, v1]` (the default). -/
  | abab
  /-- `[v0, v0, v1, v1]`. -/
  | aabb
deriving DecidableEq, Repr

/-- The parameters that commands read. `CRC_TABLE` is the `rom` field of the state, and `N_INST` is the length of
a platform's list of instances. -/
structure Params where
  overrun : OverrunPolicy
  repl2 : LaneOrder
deriving DecidableEq, Repr

/-- The two forms of table that 40_crc8.md R86 allows. -/
inductive TableForm where
  | msbFirst
  | reflected
deriving DecidableEq, Repr

/-- The byte that buffer cell `cell` holds after the block reset number `reset`: "unspecified; any byte"
(10_state.md R32, 93_implementation_defined.md I10). It has no body, so no value of it can be proved. DESIGN CHOICE
(log 4): its only indices are the reset number and the cell. The spec leaves the byte open for each instance and each
history apart, but here two instances of a platform, or two runs of one instance, that take their reset of the same number
get equal bytes, and that equality is provable: a claim that rests on it is the model's, not the spec's. -/
opaque Config.freeByte (reset cell : Nat) : Byte

end Sys2Proof
end

