-- ==== Sys2Proof/Machine/Constants.lean ====
section
/-! DEFINITION. The fixed parameters of 00_scope.md R6 and the defaults of R7. -/

namespace Sys2Proof.Machine

/-- `CAP`, the frame-buffer capacity in bytes (R6). -/
def cap : Nat := 10

/-- `MARKER`, the start marker 'T' (R6, decided in 92_eei_decisions.md D11; log 10). -/
def marker : Byte := 0x54#8

/-- `SENTINEL`, the invalid distance (R6). -/
def sentinel : Distance := 0x0000#16

/-- `CRC_INIT` (R6). -/
def crcInit : Byte := 0x00#8

/-- The defaults of `P_OVERRUN` and `P_REPL2` (R7). -/
def defaultParams : Params := ⟨.hold, .abab⟩

end Sys2Proof.Machine
end

