-- ==== Sys2Proof/Machine/Crc.lean ====
section
/-! DEFINITION. The CRC-8 engine: the constant table and the pure functions over it (40_crc8.md). -/

namespace Sys2Proof.Machine

/-! ### The tables (R84, R86) -/

/-- One turn of the MSB-first generator loop with polynomial byte `p` (R84 with 0x07 replaced by `p`, R86). -/
def msbShift (p c : Byte) : Byte := if c.getLsbD 7 then (c <<< 1) ^^^ p else c <<< 1

/-- One turn of the reflected generator loop with polynomial byte `p` (R86). -/
def lsbShift (p c : Byte) : Byte := if c.getLsbD 0 then (c >>> 1) ^^^ p else c >>> 1

/-- One turn of the loop of a table's form. -/
def tableShift : TableForm → Byte → Byte → Byte
  | .msbFirst => msbShift
  | .reflected => lsbShift

/-- Entry `i` of the table of polynomial byte `p`: eight turns of the loop from `i` (R84, R86). -/
def tableEntry (form : TableForm) (p i : Byte) : Byte := (tableShift form p)^[8] i

/-- The whole table of a form and a polynomial byte (R86). -/
def crcTable (form : TableForm) (p : Byte) : Rom :=
  ⟨⟨(List.range 256).map fun i => tableEntry form p (BitVec.ofNat 8 i)⟩, by simp⟩

/-- Row 0x0x of the listing of R84. -/
def romRow0 : List Byte :=
  [0x00, 0x07, 0x0E, 0x09, 0x1C, 0x1B, 0x12, 0x15, 0x38, 0x3F, 0x36, 0x31, 0x24, 0x23, 0x2A, 0x2D]

/-- Row 0x1x of the listing of R84. -/
def romRow1 : List Byte :=
  [0x70, 0x77, 0x7E, 0x79, 0x6C, 0x6B, 0x62, 0x65, 0x48, 0x4F, 0x46, 0x41, 0x54, 0x53, 0x5A, 0x5D]

/-- Row 0x2x of the listing of R84. -/
def romRow2 : List Byte :=
  [0xE0, 0xE7, 0xEE, 0xE9, 0xFC, 0xFB, 0xF2, 0xF5, 0xD8, 0xDF, 0xD6, 0xD1, 0xC4, 0xC3, 0xCA, 0xCD]

/-- Row 0x3x of the listing of R84. -/
def romRow3 : List Byte :=
  [0x90, 0x97, 0x9E, 0x99, 0x8C, 0x8B, 0x82, 0x85, 0xA8, 0xAF, 0xA6, 0xA1, 0xB4, 0xB3, 0xBA, 0xBD]

/-- Row 0x4x of the listing of R84. -/
def romRow4 : List Byte :=
  [0xC7, 0xC0, 0xC9, 0xCE, 0xDB, 0xDC, 0xD5, 0xD2, 0xFF, 0xF8, 0xF1, 0xF6, 0xE3, 0xE4, 0xED, 0xEA]

/-- Row 0x5x of the listing of R84. -/
def romRow5 : List Byte :=
  [0xB7, 0xB0, 0xB9, 0xBE, 0xAB, 0xAC, 0xA5, 0xA2, 0x8F, 0x88, 0x81, 0x86, 0x93, 0x94, 0x9D, 0x9A]

/-- Row 0x6x of the listing of R84. -/
def romRow6 : List Byte :=
  [0x27, 0x20, 0x29, 0x2E, 0x3B, 0x3C, 0x35, 0x32, 0x1F, 0x18, 0x11, 0x16, 0x03, 0x04, 0x0D, 0x0A]

/-- Row 0x7x of the listing of R84. -/
def romRow7 : List Byte :=
  [0x57, 0x50, 0x59, 0x5E, 0x4B, 0x4C, 0x45, 0x42, 0x6F, 0x68, 0x61, 0x66, 0x73, 0x74, 0x7D, 0x7A]

/-- Row 0x8x of the listing of R84. -/
def romRow8 : List Byte :=
  [0x89, 0x8E, 0x87, 0x80, 0x95, 0x92, 0x9B, 0x9C, 0xB1, 0xB6, 0xBF, 0xB8, 0xAD, 0xAA, 0xA3, 0xA4]

/-- Row 0x9x of the listing of R84. -/
def romRow9 : List Byte :=
  [0xF9, 0xFE, 0xF7, 0xF0, 0xE5, 0xE2, 0xEB, 0xEC, 0xC1, 0xC6, 0xCF, 0xC8, 0xDD, 0xDA, 0xD3, 0xD4]

/-- Row 0xAx of the listing of R84. -/
def romRowA : List Byte :=
  [0x69, 0x6E, 0x67, 0x60, 0x75, 0x72, 0x7B, 0x7C, 0x51, 0x56, 0x5F, 0x58, 0x4D, 0x4A, 0x43, 0x44]

/-- Row 0xBx of the listing of R84. -/
def romRowB : List Byte :=
  [0x19, 0x1E, 0x17, 0x10, 0x05, 0x02, 0x0B, 0x0C, 0x21, 0x26, 0x2F, 0x28, 0x3D, 0x3A, 0x33, 0x34]

/-- Row 0xCx of the listing of R84. -/
def romRowC : List Byte :=
  [0x4E, 0x49, 0x40, 0x47, 0x52, 0x55, 0x5C, 0x5B, 0x76, 0x71, 0x78, 0x7F, 0x6A, 0x6D, 0x64, 0x63]

/-- Row 0xDx of the listing of R84. -/
def romRowD : List Byte :=
  [0x3E, 0x39, 0x30, 0x37, 0x22, 0x25, 0x2C, 0x2B, 0x06, 0x01, 0x08, 0x0F, 0x1A, 0x1D, 0x14, 0x13]

/-- Row 0xEx of the listing of R84. -/
def romRowE : List Byte :=
  [0xAE, 0xA9, 0xA0, 0xA7, 0xB2, 0xB5, 0xBC, 0xBB, 0x96, 0x91, 0x98, 0x9F, 0x8A, 0x8D, 0x84, 0x83]

/-- Row 0xFx of the listing of R84. -/
def romRowF : List Byte :=
  [0xDE, 0xD9, 0xD0, 0xD7, 0xC2, 0xC5, 0xCC, 0xCB, 0xE6, 0xE1, 0xE8, 0xEF, 0xFA, 0xFD, 0xF4, 0xF3]

/-- The listing of R84, in index order. -/
def defaultRomList : List Byte :=
  romRow0 ++ romRow1 ++ romRow2 ++ romRow3 ++ romRow4 ++ romRow5 ++ romRow6 ++ romRow7 ++
    romRow8 ++ romRow9 ++ romRowA ++ romRowB ++ romRowC ++ romRowD ++ romRowE ++ romRowF

theorem defaultRomList_length : defaultRomList.length = 256 := by
  simp only [defaultRomList, List.length_append]
  rfl

/-- The default `CRC_TABLE`, as R84 lists it: the MSB-first table of polynomial 0x07. -/
def defaultRom : Rom := ⟨⟨defaultRomList⟩, defaultRomList_length⟩

/-- The tables `CRC_TABLE` may be: those of a polynomial byte other than 0, in either form (R86). -/
def IsCrcTable (rom : Rom) : Prop := ∃ form p, p ≠ 0#8 ∧ rom = crcTable form p

/-! ### The function (R80 to R83) -/

/-- `ROM[i]` (00_scope.md R9). -/
def romAt (rom : Rom) (i : Byte) : Byte := rom[i.toNat]

/-- The update of the running CRC, in the form of R82. -/
def crcUpdate (rom : Rom) (crc b : Byte) : Byte := romAt rom (crc ^^^ b)

/-- The update of the running CRC in the source's words, with a 16-bit intermediate value (R81, C4). -/
def crcUpdateLiteral (rom : Rom) (crc b : Byte) : Byte :=
  (((romAt rom ((crc ^^^ b) &&& 0xFF#8)).setWidth 16 ^^^ (crc.setWidth 16 <<< 8)) &&& 0x00FF#16).setWidth 8

/-- `crc8(s) = crc8(s, |s|)` (R80, R81). -/
def crc8 (rom : Rom) (s : List Byte) : Byte := s.foldl (crcUpdate rom) crcInit

/-- `crc8(s, n)`, over the first `n` bytes; no value where the sequence is shorter
(R80, 93_implementation_defined.md I5; log 15). -/
def crc8Len (rom : Rom) (s : List Byte) (n : Nat) : Option Byte :=
  if n ≤ s.length then some (crc8 rom (s.take n)) else none

/-- The frame check predicate `crc_ok(f)`, for `|f| ≥ 1`: the CRC of all bytes but the last equals the last
(R63, R87). -/
def crcOk (rom : Rom) (f : List Byte) : Bool :=
  match f.getLast? with
  | none => false
  | some c => crc8 rom f.dropLast == c

end Sys2Proof.Machine
end

