-- ==== Sys2Proof/Machine/State.lean ====
section
/-! DEFINITION. The state of one TFV instance (10_state.md R20), as plain data, and its value after reset. -/

namespace Sys2Proof.Machine

/-- The channel mode `MODE`: one of three values; the code 3 is never held (10_state.md R23). -/
inductive Mode where
  /-- 1-channel, code 0. -/
  | ch1
  /-- 2-channel, code 1. -/
  | ch2
  /-- 4-channel, code 2. -/
  | ch4
deriving DecidableEq, Repr

/-- The outcome labels of 60_exceptions.md R171: observations for proofs, read by no command. -/
inductive OutcomeLabel where
  | ok
  | checksumMismatch
  | frameLengthMismatch
  | bufferOverrun
  | frameStart
  | appended
  | discarded
  | frameReset
  | modeSet
  | statusRead
  | refused
deriving DecidableEq, Repr

/-- A response on the response channel (30_encoding.md R70). -/
inductive Response where
  /-- DECODE: COUNT and DATA, lane j at DATA[16j+15:16j] (R71). -/
  | sample (count : BitVec 3) (data : BitVec 64)
  /-- RRCHECK: one distance or the sentinel (R73). -/
  | distance (d : Distance)
  /-- STATUS: one byte (R72). -/
  | status (b : Byte)
deriving DecidableEq, Repr

/-- Why the machine stops. -/
inductive Fault where
  /-- Raised by FEED, DECODE and STATUS, the commands that read FILL, in a state whose FILL is 11 to 15. The spec
  calls such a state impossible and gives it the treatment `fault` (10_state.md R22, 93_implementation_defined.md
  I14). Safe: the model stops where the spec gives no effect, and no legal state reaches it (log 6). -/
  | fillOutOfRange (fill : BitVec 4)
deriving DecidableEq, Repr

/-- Why an instruction has no meaning. -/
inductive Refusal where
  /-- An arm of `exec` that is not modelled. No arm answers it in this model; it would be safe. -/
  | notModelled (mnemonic : String)
deriving DecidableEq, Repr

/-- One TFV instance (10_state.md R20), its configuration (00_scope.md R7) and the host's side of its ports. -/
structure State where
  /-- `FILL`, the fill count, legal values 0 to 10 (R22). -/
  fill : BitVec 4
  /-- `BUF[0..9]`, the frame buffer (R21). -/
  buf : Vector Byte 10
  /-- `MODE`, the channel mode (R23). -/
  mode : Mode
  /-- `ROM[0..255]`, the constant `CRC_TABLE` (R24). -/
  rom : Rom
  /-- `P_OVERRUN` and `P_REPL2` (R7), written by nothing. -/
  params : Params
  /-- The command words issued and not yet begun, oldest first (R4, R48; log 1). -/
  port : List Word
  /-- The block-reset input, sampled between commands (R190; log 2). -/
  resetLine : Bool
  /-- The responses that have left the block, oldest first (R70; log 8). -/
  responses : List Response
  /-- The outcome labels recorded, oldest first: ghost state (R171; log 8). -/
  outcomes : List OutcomeLabel
  /-- How many block resets were taken, the index of the free values of BUF; no index names the instance (log 4). -/
  resetCount : Nat
deriving DecidableEq, Repr

/-- The machine after reset under a configuration: FILL = 0, MODE = 0, ROM = CRC_TABLE (10_state.md R32). BUF is
"unspecified; any byte" there, and zero here (log 3). Nothing is pending at the ports. -/
def State.resetWith (rom : Rom) (params : Params) : State where
  fill := 0#4
  buf := Vector.replicate 10 0#8
  mode := .ch1
  rom := rom
  params := params
  port := []
  resetLine := false
  responses := []
  outcomes := []
  resetCount := 0

/-- The machine after reset, with the defaults of 00_scope.md R7. -/
def State.reset : State := State.resetWith defaultRom defaultParams

end Sys2Proof.Machine
end

