-- ==== Sys2Proof/Machine/Operands.lean ====
section
/-! DEFINITION. The operand forms and the frame formats: mode codes and lengths (10_state.md R23), distances
(20_memory.md R41), wire frames (30_encoding.md R60, R61), accepted lengths, channel values and lanes
(42_stream_decode.md R121, R124, 30_encoding.md R71). -/

namespace Sys2Proof.Machine

/-! ### The channel mode (R23, R69) -/

/-- The 2-bit code of a mode (R23). -/
def modeCode : Mode → BitVec 2
  | .ch1 => 0#2
  | .ch2 => 1#2
  | .ch4 => 2#2

/-- The mode of a 2-bit code; 3 is reserved (R23, R69). -/
def modeOfCode (m : BitVec 2) : Option Mode :=
  match m with
  | 0#2 => some .ch1
  | 1#2 => some .ch2
  | 2#2 => some .ch4
  | _ => none

/-- `CHANNELS(m)` (00_scope.md R6, R23). -/
def channels : Mode → Nat
  | .ch1 => 1
  | .ch2 => 2
  | .ch4 => 4

/-- `FRAME_LEN(m) = 2 + 2 * CHANNELS(m)` (R6, R23, 90_conflicts.md C3). -/
def frameLen (m : Mode) : Nat := 2 + 2 * channels m

/-- `ACCEPT(m)`, the fill counts DECODE accepts (R121, 90_conflicts.md C6). -/
def accept : Mode → List Nat
  | .ch1 => [4]
  | .ch2 => [6]
  | .ch4 => [4, 6, 10]

/-! ### Distances (20_memory.md R41) -/

/-- `dist16(hi, lo) = zext_16(hi) << 8 | zext_16(lo)`, big-endian (R41). -/
def dist16 (hi lo : Byte) : Distance := (hi.setWidth 16 <<< 8) ||| lo.setWidth 16

/-- `D[15:8]`. -/
def hiByte (d : Distance) : Byte := d.extractLsb' 8 8

/-- `D[7:0]`. -/
def loByte (d : Distance) : Byte := d.extractLsb' 0 8

/-- The data bytes that carry distances, in channel order, high byte first (30_encoding.md R60). -/
def dataBytes (ds : List Distance) : List Byte := ds.flatMap fun d => [hiByte d, loByte d]

/-! ### Wire frames -/

/-- The streaming frame that carries the distances: marker, data bytes, checksum of all before it (R60, R63). -/
def streamFrame (rom : Rom) (ds : List Distance) : List Byte :=
  (marker :: dataBytes ds) ++ [crc8 rom (marker :: dataBytes ds)]

/-- The request/response frame that carries a distance (R61). -/
def rrFrame (rom : Rom) (d : Distance) : List Byte :=
  [hiByte d, loByte d, crc8 rom [hiByte d, loByte d]]

/-! ### What DECODE answers (R124, R125, R71) -/

/-- Consecutive pairs of data bytes as distances, in buffer order (R41, R124). -/
def pairDistances : List Byte → List Distance
  | hi :: lo :: rest => dist16 hi lo :: pairDistances rest
  | _ => []

/-- `v[0..k-1]`: the distances of a frame's data bytes, those between the marker and the checksum byte (R10, R124). -/
def channelValues (f : List Byte) : List Distance := pairDistances f.tail.dropLast

/-- The output for `n` requested channels: the received values, replicated to four where a 1- or 2-channel frame is
decoded in 4-channel mode (R124, R128). -/
def fillLanes (order : LaneOrder) (n : Nat) (v : List Distance) : List Distance :=
  if v.length = n then v
  else
    match v, order with
    | [v0], _ => [v0, v0, v0, v0]
    | [v0, v1], .abab => [v0, v1, v0, v1]
    | [v0, v1], .aabb => [v0, v0, v1, v1]
    | v, _ => v

/-- `[SENTINEL] × n` (R122, R123). -/
def sentinels (n : Nat) : List Distance := List.replicate n sentinel

/-- `DATA`: lane j of the list at [16j+15:16j], unused lanes 0 (R71). -/
def packLanes (out : List Distance) : BitVec 64 :=
  out.getD 3 0#16 ++ out.getD 2 0#16 ++ out.getD 1 0#16 ++ out.getD 0 0#16

/-- The DECODE response `(COUNT, DATA)` for `n` channels (R71). -/
def sampleResponse (n : Nat) (out : List Distance) : Response := .sample (BitVec.ofNat 3 n) (packLanes out)

end Sys2Proof.Machine
end

