-- ==== Sys2Proof/Machine/Flags.lean ====
section
/-! DEFINITION. The derived flags: COMPLETE, the frame-boundary phase, the STATUS view (10_state.md R29 to R31),
and the outcome labels with their numeric codes (60_exceptions.md R171). No flag is stored. -/

namespace Sys2Proof.Machine

/-- `COMPLETE = (FILL = FRAME_LEN(MODE))` (R29). -/
def complete (s : State) : Bool := s.fill.toNat == frameLen s.mode

/-- The phases of the frame-boundary state machine (R30). -/
inductive Phase where
  | hunt
  | filling
  | complete
  | overfill
  | full
deriving DecidableEq, Repr

/-- The phase, a function of FILL and MODE (R30). -/
def phase (s : State) : Phase :=
  if s.fill = 0#4 then .hunt
  else if s.fill.toNat < frameLen s.mode then .filling
  else if s.fill.toNat = frameLen s.mode then .complete
  else if s.fill.toNat < cap then .overfill
  else .full

/-- The STATUS view: `0 ++ COMPLETE ++ MODE ++ FILL` (R31, R72). -/
def statusByte (s : State) : Byte :=
  0#1 ++ BitVec.ofBool (complete s) ++ modeCode s.mode ++ s.fill

/-- The numeric code of an outcome label (R171). -/
def labelCode : OutcomeLabel → Nat
  | .ok => 0
  | .checksumMismatch => 1
  | .frameLengthMismatch => 2
  | .bufferOverrun => 3
  | .frameStart => 4
  | .appended => 5
  | .discarded => 6
  | .frameReset => 7
  | .modeSet => 8
  | .statusRead => 9
  | .refused => 10

/-- The labels a command may record, the column "recorded by" of R171. The term `setmode 3#2`, which no word decodes
to, is the reserved mode command (R151). -/
def labelsOf : Instr → List OutcomeLabel
  | .feed _ => [.frameStart, .appended, .discarded, .bufferOverrun]
  | .decode => [.ok, .checksumMismatch, .frameLengthMismatch]
  | .rstf => [.frameReset]
  | .setmode m => if m = 3#2 then [.refused] else [.modeSet]
  | .rrcheck _ _ _ => [.ok, .checksumMismatch]
  | .status => [.statusRead]
  | .reservedMode => [.refused]
  | .reservedOp0 => [.refused]
  | .reservedOp7 => [.refused]
  | .reservedHigh _ => [.refused]

end Sys2Proof.Machine
end

