-- ==== Sys2Proof/Machine/Ops.lean ====
section
/-! DEFINITION. The named operations over the state: the pseudocode primitives of 00_scope.md R9, the frame, taking the
next command, the block reset (70_reset_and_hazards.md R190), and the shared shapes of the commands. The block has no
exception to take and none to return from (60_exceptions.md R170, R177, R178). -/

namespace Sys2Proof.Machine

/-! ### Primitives (R9) -/

/-- `FILL <- n`. -/
def setFill (s : State) (n : BitVec 4) : State := { s with fill := n }

/-- `MODE <- m`. -/
def setMode (s : State) (m : Mode) : State := { s with mode := m }

/-- `BUF[i] <- b`. The one caller has `i < CAP` (41_stream_feed.md R101). -/
def writeCell (s : State) (i : Nat) (b : Byte) : State := { s with buf := s.buf.setIfInBounds i b }

/-- `respond(r)`: the response leaves with its command (R9, 30_encoding.md R70). -/
def respond (s : State) (r : Response) : State := { s with responses := s.responses ++ [r] }

/-- `observe(o)`: records the outcome label of the command (R9, R171). -/
def observe (s : State) (o : OutcomeLabel) : State := { s with outcomes := s.outcomes ++ [o] }

/-! ### The frame -/

/-- The bytes of the frame in the buffer, `BUF[0..FILL-1]` (10_state.md R21). -/
def frame (s : State) : List Byte := s.buf.toList.take s.fill.toNat

/-- The frame clear, `FILL <- 0`; no cell of BUF changes (R21, R126). -/
def clearFrame (s : State) : State := setFill s 0#4

/-- A command that reads FILL goes on only where FILL is a legal value; FILL = 11 to 15 is the impossible state that
93_implementation_defined.md I14 gives the treatment `fault` (log 6). -/
def withLegalFill (s : State) (t : State) : Host.Outcome State Fault Refusal :=
  if s.fill.toNat ≤ cap then .next t else .fault (.fillOutOfRange s.fill)

/-- What a reserved word does: no state changes and no response is returned; the label is REFUSED
(44_control.md R151, R154; log 5). -/
def reservedNoOp (s : State) : State := observe s .refused

/-! ### Between commands -/

/-- The next command and the state in which it begins: the oldest pending word leaves the port and is decoded
(R4, R48). -/
def takeCommand (s : State) : Option (Instr × State) :=
  match s.port with
  | [] => none
  | w :: ws => some (decode w, { s with port := ws })

/-- The block reset (R190, R32): FILL = 0, MODE = 0, every cell of BUF a free value, ROM unchanged. The words whose
execution has not begun are not executed, no response is produced, and the reset input is taken back (log 2). DESIGN
CHOICE (log 4): the free values depend on `resetCount` and the cell alone, not on the instance or on what it did before. -/
def takeReset (s : State) : State :=
  { s with
    fill := 0#4
    mode := .ch1
    buf := Vector.ofFn fun i => Config.freeByte s.resetCount i.val
    port := []
    resetLine := false
    resetCount := s.resetCount + 1 }

end Sys2Proof.Machine
end

