-- ==== Sys2Proof/Machine/Control.lean ====
section
/-! DEFINITION. SETMODE, RSTF, STATUS and the reserved words (44_control.md). -/

namespace Sys2Proof.Machine

/-- SETMODE m (R150): sets MODE and clears the frame, even where MODE already holds the value. The term with the
reserved code 3, which no word decodes to, does what that word does (R151; log 11). -/
def execSetmode (m : BitVec 2) (s : State) : Host.Outcome State Fault Refusal :=
  match modeOfCode m with
  | some mode => .next (observe (clearFrame (setMode s mode)) .modeSet)
  | none => .next (reservedNoOp s)

/-- RSTF (R152): clears the frame. -/
def execRstf (s : State) : Host.Outcome State Fault Refusal :=
  .next (observe (clearFrame s) .frameReset)

/-- STATUS (R153): answers the status byte and writes no state. -/
def execStatus (s : State) : Host.Outcome State Fault Refusal :=
  withLegalFill s (observe (respond s (.status (statusByte s))) .statusRead)

/-- SETMODE with M = 3 (R151): ignored by the hardware (log 5). -/
def execReservedMode (s : State) : Host.Outcome State Fault Refusal :=
  .next (reservedNoOp s)

/-- A reserved word with OP = 0x0 (R154): a no-operation (log 5). -/
def execReservedOp0 (s : State) : Host.Outcome State Fault Refusal :=
  .next (reservedNoOp s)

/-- A reserved word with OP = 0x7 (R154): a no-operation (log 5). -/
def execReservedOp7 (s : State) : Host.Outcome State Fault Refusal :=
  .next (reservedNoOp s)

/-- A reserved word with OP = 0x8 to 0xF (R154): a no-operation, whatever the opcode (log 5). -/
def execReservedHigh (_op : BitVec 3) (s : State) : Host.Outcome State Fault Refusal :=
  .next (reservedNoOp s)

end Sys2Proof.Machine
end

