-- ==== Sys2Proof/Machine/Feed.lean ====
section
/-! DEFINITION. FEED, the streaming frame synchroniser (41_stream_feed.md). -/

namespace Sys2Proof.Machine

/-- FEED in HUNT, FILL = 0 (R102): only the marker starts a frame. -/
def feedHunt (b : Byte) (s : State) : State :=
  if b = marker then observe (setFill (writeCell s 0 b) 1#4) .frameStart
  else observe s .discarded

/-- FEED inside a frame, 0 < FILL < CAP (R103): the byte is appended, whatever its value (R105). -/
def feedAppend (b : Byte) (s : State) : State :=
  observe (setFill (writeCell s s.fill.toNat b) (s.fill + 1#4)) .appended

/-- FEED into a full buffer, FILL = CAP (R104): the byte is dropped; `P_OVERRUN` says what FILL becomes (C2). -/
def feedOverrun (s : State) : State :=
  match s.params.overrun with
  | .hold => observe s .bufferOverrun
  | .restart => observe (setFill s 0#4) .bufferOverrun

/-- The three cases of R101. -/
def feedByte (b : Byte) (s : State) : State :=
  if s.fill = 0#4 then feedHunt b s
  else if s.fill.toNat < cap then feedAppend b s
  else feedOverrun s

/-- FEED b (R101). FEED reads FILL and not MODE (C9), and gives no response (R100). -/
def execFeed (b : Byte) (s : State) : Host.Outcome State Fault Refusal :=
  withLegalFill s (feedByte b s)

end Sys2Proof.Machine
end

