-- ==== Sys2Proof/Machine/RequestResponse.lean ====
section
/-! DEFINITION. RRCHECK, the request/response validation (43_rr_decode.md). -/

namespace Sys2Proof.Machine

/-- RRCHECK b0, b1, b2 (R140): reads ROM and its operands alone and writes no state (R141). -/
def execRrcheck (b0 b1 b2 : Byte) (s : State) : Host.Outcome State Fault Refusal :=
  if crc8 s.rom [b0, b1] = b2 then .next (observe (respond s (.distance (dist16 b0 b1))) .ok)
  else .next (observe (respond s (.distance sentinel)) .checksumMismatch)

end Sys2Proof.Machine
end

