-- ==== Sys2Proof/Machine/StreamDecode.lean ====
section
/-! DEFINITION. DECODE, the streaming frame decode (42_stream_decode.md). -/

namespace Sys2Proof.Machine

/-- The label and the output list of a decode attempt (R128): the length check first (R122, R176), then the checksum
(R123), then the channel values (R124). -/
def decodeAttempt (s : State) : OutcomeLabel × List Distance :=
  if s.fill.toNat ∉ accept s.mode then (.frameLengthMismatch, sentinels (channels s.mode))
  else if crcOk s.rom (frame s) = false then (.checksumMismatch, sentinels (channels s.mode))
  else (.ok, fillLanes s.params.repl2 (channels s.mode) (channelValues (frame s)))

/-- DECODE (R128): one decode attempt, after which the frame is cleared whatever its outcome (R126). -/
def execDecode (s : State) : Host.Outcome State Fault Refusal :=
  withLegalFill s
    (observe (respond (clearFrame s) (sampleResponse (channels s.mode) (decodeAttempt s).2)) (decodeAttempt s).1)

end Sys2Proof.Machine
end

