-- ==== Sys2Proof/Machine/Dispatch.lean ====
section
/-! DEFINITION. One arm for each constructor of Instr, each one direct call of its meaning. -/

namespace Sys2Proof.Machine

def exec (i : Instr) (s : State) : Host.Outcome State Fault Refusal :=
  match i with
  | .feed b => Sys2Proof.Machine.execFeed b s
  | .decode => Sys2Proof.Machine.execDecode s
  | .rstf => Sys2Proof.Machine.execRstf s
  | .setmode m => Sys2Proof.Machine.execSetmode m s
  | .rrcheck b0 b1 b2 => Sys2Proof.Machine.execRrcheck b0 b1 b2 s
  | .status => Sys2Proof.Machine.execStatus s
  | .reservedMode => Sys2Proof.Machine.execReservedMode s
  | .reservedOp0 => Sys2Proof.Machine.execReservedOp0 s
  | .reservedOp7 => Sys2Proof.Machine.execReservedOp7 s
  | .reservedHigh op => Sys2Proof.Machine.execReservedHigh op s

end Sys2Proof.Machine
end

