-- ==== Sys2Proof/Machine/Step.lean ====
section
/-! DEFINITION. One step of the block: a reset that has arrived is taken between commands (70_reset_and_hazards.md R190);
otherwise the next command of the stream is executed whole (00_scope.md R4); with nothing pending the block waits (log 9). -/

namespace Sys2Proof.Machine

/-- One step. -/
def step (s : State) : Host.Outcome State Fault Refusal :=
  if s.resetLine then .next (takeReset s)
  else
    match takeCommand s with
    | none => .next s
    | some (i, t) => exec i t

/-- The host issues one command word, ahead of any pending one and with no reset raised, so that the next step runs it
(log 1). The word has the low `nbits` bits of `w` and zeros above them. -/
def State.withFetchWord (s : State) (nbits w : Nat) : State :=
  { s with port := tableWord nbits w :: s.port, resetLine := false }

end Sys2Proof.Machine
end

