-- ==== Sys2Proof/Machine/Assembler.lean ====
section
/-! DEFINITION. The assembler syntax (30_encoding.md R75) and the pseudo-instructions (R76). -/

namespace Sys2Proof.Machine

/-- One line of assembler: a command or a pseudo-instruction (R75, R76). -/
inductive AsmLine where
  | command (i : Instr)
  | feeds (bs : List Byte)
  | frame1 (d : Distance)
  | frame2 (d0 d1 : Distance)
  | frame4 (d0 d1 d2 d3 : Distance)
  | rrframe (d : Distance)
deriving DecidableEq, Repr

/-- The commands a line expands to; checksums are computed with the configured table (R76). -/
def asmExpand (rom : Rom) : AsmLine → List Instr
  | .command i => [i]
  | .feeds bs => bs.map .feed
  | .frame1 d => (streamFrame rom [d]).map .feed
  | .frame2 d0 d1 => (streamFrame rom [d0, d1]).map .feed
  | .frame4 d0 d1 d2 d3 => (streamFrame rom [d0, d1, d2, d3]).map .feed
  | .rrframe d => [.rrcheck (hiByte d) (loByte d) (crc8 rom [hiByte d, loByte d])]

/-- The words of a list of lines (R75). -/
def asmWords (rom : Rom) (lines : List AsmLine) : List Word := (lines.flatMap (asmExpand rom)).map encode

/-! ### The text of a line (R75; log 17 for what R75 does not say) -/

/-- The tokens of a line. -/
inductive Token where
  | word (cs : List Char)
  | quoted (c : Char)
  | comma
deriving DecidableEq, Repr

/-- Ends the word whose characters were read, in reverse, before the tokens that follow it. -/
def endWord (acc : List Char) (ts : List Token) : List Token :=
  if acc.isEmpty then ts else .word acc.reverse :: ts

/-- Splits a line into tokens; a comment starts with `;` (R75). `none` where a quote does not close. DESIGN CHOICE (log 17):
a quoted character is a token of its own and ends the word before it, so no blank is needed between a mnemonic and a quoted
operand (`FEED'T'` is `FEED 'T'`), and a quoted `;` or `,` is that character. -/
def lexLine : List Char → List Char → Option (List Token)
  | acc, [] => some (endWord acc [])
  | acc, ';' :: _ => some (endWord acc [])
  | acc, ',' :: cs => (lexLine [] cs).map fun ts => endWord acc (.comma :: ts)
  | acc, '\'' :: c :: '\'' :: cs => (lexLine [] cs).map fun ts => endWord acc (.quoted c :: ts)
  | _, '\'' :: _ => none
  | acc, c :: cs =>
    if c = ' ' ∨ c = '\t' then (lexLine [] cs).map (endWord acc) else lexLine (c :: acc) cs

/-- The value of a digit. -/
def digitValue (c : Char) : Option Nat :=
  if '0' ≤ c ∧ c ≤ '9' then some (c.toNat - '0'.toNat)
  else if 'a' ≤ c ∧ c ≤ 'f' then some (c.toNat - 'a'.toNat + 10)
  else if 'A' ≤ c ∧ c ≤ 'F' then some (c.toNat - 'A'.toNat + 10)
  else none

/-- The digits of a number in a base, after the value read so far. -/
def digitsValue (base : Nat) : Nat → List Char → Option Nat
  | n, [] => some n
  | n, c :: cs =>
    match digitValue c with
    | none => none
    | some d => if d < base then digitsValue base (n * base + d) cs else none

/-- A number, hexadecimal after `0x` and decimal otherwise (R75). -/
def numberValue : List Char → Option Nat
  | [] => none
  | ['0', 'x'] => none
  | '0' :: 'x' :: cs => digitsValue 16 0 cs
  | cs => digitsValue 10 0 cs

/-- The value of an operand: a number, or the ASCII code of a quoted character (R75). -/
def operandValue : Token → Option Nat
  | .word cs => numberValue cs
  | .quoted c => if c.toNat < 128 then some c.toNat else none
  | .comma => none

/-- The mode operand of SETMODE: `1ch`, `2ch`, `4ch`, or 0, 1, 2, in these spellings only (R75; log 17). -/
def modeValue : Token → Option (BitVec 2)
  | .word cs =>
    if cs = "1ch".toList ∨ cs = "0".toList then some 0#2
    else if cs = "2ch".toList ∨ cs = "1".toList then some 1#2
    else if cs = "4ch".toList ∨ cs = "2".toList then some 2#2
    else none
  | _ => none

/-- Comma-separated operands (R75); an empty operand and two operands without a comma are refused (log 17). -/
def splitOperands : List Token → Option (List Token)
  | [] => some []
  | [.comma] => none
  | [t] => some [t]
  | .comma :: _ => none
  | t :: .comma :: u :: ts => (splitOperands (u :: ts)).map (t :: ·)
  | _ => none

/-- The values of operands, each below a bound. -/
def operandValues (bound : Nat) : List Token → Option (List Nat)
  | [] => some []
  | t :: ts =>
    match operandValue t, operandValues bound ts with
    | some n, some ns => if n < bound then some (n :: ns) else none
    | _, _ => none

/-- Byte operands (R75). -/
def byteOperands (ts : List Token) : Option (List Byte) := (operandValues 256 ts).map (·.map (BitVec.ofNat 8))

/-- Distance operands. R76 gives their spelling nowhere; DESIGN CHOICE (log 17): a distance is spelled as a byte operand
is (R75) with the bound 65536, so a number, or a quoted character for its ASCII code: `FRAME1 'T'` has d = 0x0054. -/
def distOperands (ts : List Token) : Option (List Distance) := (operandValues 65536 ts).map (·.map (BitVec.ofNat 16))

/-- The line of a mnemonic and its operands (R75, R76). -/
def asmLine (mnemonic : List Char) (ops : List Token) : Option AsmLine :=
  if mnemonic = "FEED".toList then
    match byteOperands ops with
    | some [b] => some (.command (.feed b))
    | _ => none
  else if mnemonic = "DECODE".toList then (if ops = [] then some (.command .decode) else none)
  else if mnemonic = "RSTF".toList then (if ops = [] then some (.command .rstf) else none)
  else if mnemonic = "SETMODE".toList then
    match ops with
    | [t] => (modeValue t).map fun m => .command (.setmode m)
    | _ => none
  else if mnemonic = "RRCHECK".toList then
    match byteOperands ops with
    | some [b0, b1, b2] => some (.command (.rrcheck b0 b1 b2))
    | _ => none
  else if mnemonic = "STATUS".toList then (if ops = [] then some (.command .status) else none)
  else if mnemonic = "FEEDS".toList then
    match byteOperands ops with
    | some (b :: bs) => some (.feeds (b :: bs))
    | _ => none
  else if mnemonic = "FRAME1".toList then
    match distOperands ops with
    | some [d] => some (.frame1 d)
    | _ => none
  else if mnemonic = "FRAME2".toList then
    match distOperands ops with
    | some [d0, d1] => some (.frame2 d0 d1)
    | _ => none
  else if mnemonic = "FRAME4".toList then
    match distOperands ops with
    | some [d0, d1, d2, d3] => some (.frame4 d0 d1 d2 d3)
    | _ => none
  else if mnemonic = "RRFRAME".toList then
    match distOperands ops with
    | some [d] => some (.rrframe d)
    | _ => none
  else none

/-- The lines of one line of text: none for a blank or comment line, one command otherwise (R75). -/
def parseLine (text : String) : Option (List AsmLine) :=
  match lexLine [] text.toList with
  | none => none
  | some [] => some []
  | some (.word mnemonic :: ts) =>
    match splitOperands ts with
    | none => none
    | some ops => (asmLine mnemonic ops).map ([·])
  | some _ => none

/-- The words of a program text, one line at a time (R75, R76); one refused line refuses the text (log 17). -/
def assemble (rom : Rom) : List String → Option (List Word)
  | [] => some []
  | t :: ts =>
    match parseLine t, assemble rom ts with
    | some lines, some ws => some (asmWords rom lines ++ ws)
    | _, _ => none

/-! ### The spellings of R75, written apart from the parser -/

/-- Hexadecimal digits of a byte: as few as it takes or two, and in lower or upper case, as in R75's `0x2C`
(log 17: R75 fixes neither the case nor leading zeros). -/
def hexDigits (n : Nat) : List (List Char) :=
  let short := Nat.toDigits 16 n
  let two := if n < 16 then '0' :: short else short
  [short, two, short.map Char.toUpper, two.map Char.toUpper]

/-- The spellings of a byte operand that statements speak of: decimal without leading zeros, `hexDigits` after `0x`, and,
for the code of a printable ASCII character, that character in quotes (R75). -/
def byteSpellings (b : Byte) : List (List Char) :=
  Nat.toDigits 10 b.toNat :: (hexDigits b.toNat).map ('0' :: 'x' :: ·) ++
    if 32 ≤ b.toNat ∧ b.toNat < 127 then [['\'', Char.ofNat b.toNat, '\'']] else []

/-- The spellings of the mode operand of SETMODE (R75); the reserved code has none. -/
def modeSpellings (m : BitVec 2) : List (List Char) :=
  if m = 0#2 then ["1ch".toList, "0".toList]
  else if m = 1#2 then ["2ch".toList, "1".toList]
  else if m = 2#2 then ["4ch".toList, "2".toList]
  else []

/-- The line `text` stands for the command `i` and for its word `w`, also with a comment behind it (R75). -/
def AssemblesTo (text : List Char) (i : Instr) (w : Word) : Prop :=
  encode i = w ∧
  ∀ (rom : Rom) (comment : List Char), comment = [] ∨ comment.head? = some ';' →
    parseLine (String.ofList (text ++ comment)) = some [.command i] ∧
    assemble rom [String.ofList (text ++ comment)] = some [w]

end Sys2Proof.Machine
end

