-- ==== Sys2Proof/Machine/Stream.lean ====
section
/-! DEFINITION. Command streams: the left fold of the commands (20_memory.md R48), runs of the block, and the
interleavings of several command sources (R49). -/

namespace Sys2Proof.Machine

/-- The commands of a list one after another, stopping at the first that stops (R48). -/
def execAll : List Instr → State → Host.Outcome State Fault Refusal
  | [], s => .next s
  | i :: is, s =>
    match exec i s with
    | .next t => execAll is t
    | .fault r => .fault r
    | .refused r => .refused r

/-- `n` steps of the block, stopping at the first that stops. -/
def runSteps : Nat → State → Host.Outcome State Fault Refusal
  | 0, s => .next s
  | n + 1, s =>
    match step s with
    | .next t => runSteps n t
    | .fault r => .fault r
    | .refused r => .refused r

/-- `Interleaves a b c`: the stream `c` is some interleaving of the words of two sources, each source's own words in
its order and each word whole (20_memory.md R49; log 13). -/
inductive Interleaves : List Word → List Word → List Word → Prop where
  | nil : Interleaves [] [] []
  | left {a b c : List Word} (w : Word) : Interleaves a b c → Interleaves (w :: a) b (w :: c)
  | right {a b c : List Word} (w : Word) : Interleaves a b c → Interleaves a (w :: b) (w :: c)

end Sys2Proof.Machine
end

