-- ==== Sys2Proof/Machine/Platform.lean ====
section
/-! DEFINITION. A platform of `N_INST` instances (20_memory.md R50, 60_exceptions.md R181): each has its own FILL, BUF,
MODE and ports, and all have the same constant ROM (log 12). -/

namespace Sys2Proof.Machine

/-- The instances of a platform; `N_INST` is how many there are (00_scope.md R7). -/
structure Platform where
  instances : List State
deriving DecidableEq, Repr

/-- `n` instances after reset that share one `CRC_TABLE` (R181). Their BUFs are equal here, which the spec does not say
(log 3, log 4, log 12). -/
def platformReset (n : Nat) (rom : Rom) (params : Params) : Platform :=
  ⟨List.replicate n (State.resetWith rom params)⟩

/-- Instance `k` takes one step; the others do nothing (R50). An index that names no instance changes nothing. -/
def platformStep (k : Nat) (p : Platform) : Host.Outcome Platform Fault Refusal :=
  match p.instances[k]? with
  | none => .next p
  | some s =>
    match step s with
    | .next t => .next ⟨p.instances.set k t⟩
    | .fault r => .fault r
    | .refused r => .refused r

/-- The steps of a schedule, each naming the instance that steps; the relative order of different instances is free
(R50). -/
def platformRun : List Nat → Platform → Host.Outcome Platform Fault Refusal
  | [], p => .next p
  | k :: ks, p =>
    match platformStep k p with
    | .next q => platformRun ks q
    | .fault r => .fault r
    | .refused r => .refused r

/-- All instances read one and the same ROM (R24, R50). -/
def SharesRom (rom : Rom) (p : Platform) : Prop := ∀ s ∈ p.instances, s.rom = rom

end Sys2Proof.Machine
end

