-- ==== Sys2Proof/Safety.lean ====
section
/-! DEFINITION. What claims call a legal state, a run without a stop, the states the host cannot tell apart, and the
host's discipline. -/

namespace Sys2Proof.Machine

/-- The invariants of the block: FILL ≤ CAP (10_state.md R22), and the buffer of a frame in progress starts with the
marker (R25). MODE is never 3 (R23) and BUF never longer than CAP (R21) by their types. -/
abbrev Legal (s : State) : Prop :=
  s.fill.toNat ≤ cap ∧ (s.fill ≠ 0#4 → s.buf[0] = marker)

/-- The command or step completes: it answers a next state, neither a fault nor a refusal (60_exceptions.md R170). -/
def Completes {α : Type} (o : Host.Outcome α Fault Refusal) : Prop := ∃ t, o = .next t

/-- Two states that differ at most in stale cells of BUF, those at index FILL and above, which no rule reads
(10_state.md R21, R26, R33). -/
def SameButStaleCells (s t : State) : Prop :=
  frame s = frame t ∧ { s with buf := t.buf } = t

/-- A command to which the spec gives a meaning of its own; no claim of the spec's holds of a stream with a reserved
word (44_control.md R154; log 5). -/
def claimable : Instr → Bool
  | .feed _ => true
  | .decode => true
  | .rstf => true
  | .setmode m => m != 3#2
  | .rrcheck _ _ _ => true
  | .status => true
  | .reservedMode => false
  | .reservedOp0 => false
  | .reservedOp7 => false
  | .reservedHigh _ => false

/-- The safe host discipline of 70_reset_and_hazards.md R203, as a condition on the next command: FEED never after
completion (R196), DECODE exactly at completion (R195), SETMODE only between frames (R198), no reserved word (R154).
RSTF, which R203 does not name, also discards a frame (R152) and is held to the rule for SETMODE. -/
def disciplined (i : Instr) (s : State) : Bool :=
  match i with
  | .feed _ => !complete s
  | .decode => complete s
  | .setmode m => claimable (.setmode m) && s.fill == 0#4
  | .rstf => s.fill == 0#4
  | .rrcheck _ _ _ => true
  | .status => true
  | .reservedMode => false
  | .reservedOp0 => false
  | .reservedOp7 => false
  | .reservedHigh _ => false

end Sys2Proof.Machine
end

