-- ==== Sys2Proof/Certificates/Slice0/Obligations.lean ====
section
/-! DEFINITION. The statements for the provers, from the numbered rules of the spec. -/

open Sys2Proof Sys2Proof.Machine

/-! ### Decoding and encoding (30_encoding.md) -/

/-- R74, R75: decoding the word of a well-formed instruction gives it back, with every operand at every value. -/
def Obligations.DecodeEncodeRoundTrip : Prop :=
  ∀ i : Instr, i.wellFormed = true → decode (encode i) = i

/-- R68, R75: encoding what a word decodes to gives the word with 0 in every ignored bit. -/
def Obligations.EncodeDecodeClearsIgnoredBits : Prop :=
  ∀ w : Word, encode (decode w) = w &&& (decode w).usedBits

/-- R68: two words that differ only in ignored bits are the same command. -/
def Obligations.IgnoredBitsHaveNoEffect : Prop :=
  ∀ w v : Word, w &&& (decode w).usedBits = v &&& (decode w).usedBits → decode v = decode w

/-- R74: every word belongs to exactly one row of the opcode table, the row of the instruction it decodes to. -/
def Obligations.EveryWordHasExactlyOneRow : Prop :=
  ∀ w : Word, (decode w).row.covers w = true ∧ ∀ i : Instr, i.row.covers w = true → i.row = (decode w).row

/-- R69, R74: the decoder gives well-formed instructions only, so SETMODE never names the reserved mode. -/
def Obligations.DecodedInstructionsAreWellFormed : Prop :=
  ∀ w : Word, (decode w).wellFormed = true

/-- Words written out from R64 to R66 and R75, with ignored bits set in some, decode to their commands. -/
def Obligations.WrittenWordsDecode : Prop :=
  decode 0x10000054#32 = .feed 0x54#8 ∧ decode 0x1FFFFF54#32 = .feed 0x54#8 ∧
  decode 0x20000000#32 = .decode ∧ decode 0x30000000#32 = .rstf ∧
  decode 0x40000002#32 = .setmode 2#2 ∧ decode 0x40000003#32 = .reservedMode ∧
  decode 0x50012CD1#32 = .rrcheck 0x01#8 0x2C#8 0xD1#8 ∧ decode 0x6ABCDEF0#32 = .status ∧
  decode 0x00000000#32 = .reservedOp0 ∧ decode 0x70000000#32 = .reservedOp7 ∧
  decode 0xF0000000#32 = .reservedHigh 7#3

/-! ### The step (00_scope.md R4, 20_memory.md R48, 70_reset_and_hazards.md R190) -/

/-- R4, R48: with no reset raised, a step executes the command that the oldest pending word decodes to, in the state
in which that word has left the port. -/
def Obligations.StepRunsDecodedCommand : Prop :=
  ∀ (s : State) (w : Word) (ws : List Word), s.resetLine = false → s.port = w :: ws →
    step s = exec (decode w) { s with port := ws }

/-- The model's own reading (log 1, log 9): a word issued by `withFetchWord` is the one the next step runs, and a block
with nothing pending and no reset raised waits. -/
def Obligations.IssuedWordRunsNextAndIdleWaits : Prop :=
  (∀ (s : State) (nbits w : Nat),
    step (s.withFetchWord nbits w) = exec (decode (tableWord nbits w)) { s with resetLine := false }) ∧
  (∀ s : State, s.resetLine = false → s.port = [] → step s = .next s)

/-- R190 with the model's reset input (log 2): a reset is taken before any pending word, FILL and MODE become 0, ROM and
the parameters stay, no pending word is executed and no response is produced. BUF is not spoken of. -/
def Obligations.ResetIsTakenBeforePendingCommands : Prop :=
  ∀ s : State, s.resetLine = true → ∃ t, step s = .next t ∧
    t.fill = 0#4 ∧ modeCode t.mode = 0#2 ∧ t.rom = s.rom ∧ t.params = s.params ∧
    t.port = [] ∧ t.resetLine = false ∧ t.responses = s.responses ∧ t.outcomes = s.outcomes

/-- R32: FILL, MODE, ROM, COMPLETE and the phase after reset, for every table. That `State.reset` holds the default table
is R7 and R84, which the spec marks as general knowledge: the model's default (log 7, PRESUMED). -/
def Obligations.ResetValues : Prop :=
  (∀ (rom : Rom) (params : Params),
    (State.resetWith rom params).fill = 0#4 ∧ modeCode (State.resetWith rom params).mode = 0#2 ∧
    (State.resetWith rom params).rom = rom ∧ complete (State.resetWith rom params) = false ∧
    phase (State.resetWith rom params) = .hunt) ∧
  State.reset.rom = defaultRom

/-- R191: after reset a DECODE answers (1, [0]) with FRAME_LENGTH_MISMATCH, and the first FEED is examined as a possible
marker. -/
def Obligations.FirstCommandsAfterReset : Prop :=
  ∀ (rom : Rom) (params : Params) (s : State), s = State.resetWith rom params →
    exec .decode s = .next { s with responses := [.sample 1#3 0#64], outcomes := [.frameLengthMismatch] } ∧
    (∀ b : Byte, ∃ t, exec (.feed b) s = .next t ∧ t.fill = if b = 0x54#8 then 1#4 else 0#4)

/-- R48: the state after a list of commands is the left fold of the commands over the list. -/
def Obligations.RunIsFoldOfCommands : Prop :=
  ∀ (s : State) (ws rest : List Word), s.resetLine = false → s.port = ws ++ rest →
    runSteps ws.length s = execAll (ws.map decode) { s with port := rest }

/-! ### Invariants and whole-machine rules -/

/-- The reset state meets the invariants of R22 and R25. -/
def Obligations.ResetIsLegal : Prop :=
  ∀ (rom : Rom) (params : Params), Legal (State.resetWith rom params)

/-- R22, R25: every step keeps FILL ≤ CAP and, while FILL ≥ 1, BUF[0] = MARKER. -/
def Obligations.StepKeepsLegal : Prop :=
  ∀ s t : State, Legal s → step s = .next t → Legal t

/-- R170: every command completes, in every state whose FILL is a legal value. For the reserved words, of which R154, I3
and I4 say that a model answers REFUSED, and for the ill-formed `setmode 3`, completing is the model's choice: they are
no-operations that record the label REFUSED (log 5, log 11). -/
def Obligations.EveryCommandCompletes : Prop :=
  ∀ (i : Instr) (s : State), s.fill.toNat ≤ cap → Completes (exec i s)

/-- R170: from a legal state no number of steps ends in a fault or a refusal, and every state on the way is legal. That
this covers runs with reserved words, for which R154 has a model's step answer REFUSED, is the model's choice (log 5). -/
def Obligations.LegalRunsNeverStop : Prop :=
  ∀ (n : Nat) (s : State), Legal s → ∃ t, runSteps n s = .next t ∧ Legal t

/-- I14 (log 6): in the impossible states with FILL 11 to 15 the commands that read FILL fault. -/
def Obligations.IllegalFillFaults : Prop :=
  ∀ (b : Byte) (s : State), cap < s.fill.toNat →
    exec (.feed b) s = .fault (.fillOutOfRange s.fill) ∧ exec .decode s = .fault (.fillOutOfRange s.fill) ∧
    exec .status s = .fault (.fillOutOfRange s.fill)

/-- R24, R7: no step writes ROM or the parameters. -/
def Obligations.NoStepWritesRomOrParams : Prop :=
  ∀ s t : State, step s = .next t → t.rom = s.rom ∧ t.params = s.params

/-- R20, R31: no command but SETMODE changes MODE, and it writes the mode of its operand. -/
def Obligations.OnlySetmodeChangesMode : Prop :=
  ∀ (i : Instr) (s t : State), exec i s = .next t → t.mode ≠ s.mode →
    ∃ m, i = .setmode m ∧ modeCode t.mode = m

/-- R21: no command but FEED changes a cell of BUF, and FEED changes none but cell FILL. -/
def Obligations.OnlyFeedWritesCellFill : Prop :=
  ∀ (i : Instr) (s t : State) (j : Nat) (hj : j < 10), exec i s = .next t → t.buf[j] ≠ s.buf[j] →
    ∃ b, i = .feed b ∧ j = s.fill.toNat ∧ t.buf[j] = b ∧ t.fill.toNat = s.fill.toNat + 1

/-- R22: a command leaves FILL, clears it, or is a FEED that adds one to a FILL below CAP. -/
def Obligations.FillChangesOnlyByOneOrToZero : Prop :=
  ∀ (i : Instr) (s t : State), exec i s = .next t →
    t.fill = s.fill ∨ t.fill = 0#4 ∨
      (∃ b, i = .feed b ∧ s.fill.toNat < cap ∧ t.fill.toNat = s.fill.toNat + 1)

/-- R171: a command that completes records exactly one label, one of those the table of R171 gives it. -/
def Obligations.OneLabelPerCommand : Prop :=
  ∀ (i : Instr) (s t : State), exec i s = .next t →
    ∃ o, o ∈ labelsOf i ∧ t.outcomes = s.outcomes ++ [o]

/-- R70: DECODE, RRCHECK and STATUS return exactly one response, the other commands none, in command order. -/
def Obligations.ResponsesOfEachCommand : Prop :=
  ∀ (i : Instr) (s t : State), exec i s = .next t →
    ∃ rs : List Response, t.responses = s.responses ++ rs ∧
      rs.length =
        match i with
        | .decode => 1
        | .rrcheck _ _ _ => 1
        | .status => 1
        | .feed _ => 0
        | .rstf => 0
        | .setmode _ => 0
        | .reservedMode => 0
        | .reservedOp0 => 0
        | .reservedOp7 => 0
        | .reservedHigh _ => 0

/-- R26, R33: stale cells of BUF are invisible. Two states that differ only in cells at FILL and above go on, under any
command, to states that again differ only so: with the same responses, labels, FILL and MODE. -/
def Obligations.StaleCellsAreInvisible : Prop :=
  ∀ (i : Instr) (s t s' : State), SameButStaleCells s t → exec i s = .next s' →
    ∃ t', exec i t = .next t' ∧ SameButStaleCells s' t'

/-! ### FEED (41_stream_feed.md) -/

/-- R102: in HUNT the marker is stored in BUF[0] and FILL becomes 1; any other byte is discarded. Nothing else changes. -/
def Obligations.FeedInHunt : Prop :=
  ∀ (b : Byte) (s : State), s.fill = 0#4 →
    exec (.feed b) s =
      .next (if b = 0x54#8
        then { s with fill := 1#4, buf := s.buf.set 0 b, outcomes := s.outcomes ++ [.frameStart] }
        else { s with outcomes := s.outcomes ++ [.discarded] })

/-- R103, R105: inside a frame the byte, whatever its value, is written to BUF[FILL] and FILL is incremented by 1 without
wrapping. Every other cell and every other field but the label is unchanged. -/
def Obligations.FeedInsideFrame : Prop :=
  ∀ (b : Byte) (s : State), 0 < s.fill.toNat → s.fill.toNat < 10 →
    ∃ t, exec (.feed b) s = .next t ∧ t.fill.toNat = s.fill.toNat + 1 ∧
      (∀ (j : Nat) (hj : j < 10), t.buf[j] = if j = s.fill.toNat then b else s.buf[j]) ∧
      t.outcomes = s.outcomes ++ [.appended] ∧
      { t with fill := s.fill, buf := s.buf, outcomes := s.outcomes } = s

/-- R104: into a full buffer the byte is not stored and no cell changes; FILL stays 10 under HOLD and becomes 0 under
RESTART, the byte not being examined. -/
def Obligations.FeedIntoFullBuffer : Prop :=
  ∀ (b : Byte) (s : State), s.fill = 10#4 →
    exec (.feed b) s =
      .next { s with
        fill := match s.params.overrun with
          | .hold => 10#4
          | .restart => 0#4
        outcomes := s.outcomes ++ [.bufferOverrun] }

/-- R107: the transition table of the frame-boundary state machine, FEED by phase and then the other commands. -/
def Obligations.PhaseTransitions : Prop :=
  (∀ (b : Byte) (s : State), s.fill.toNat ≤ cap → ∃ t, exec (.feed b) s = .next t ∧
    match phase s with
    | .hunt =>
      if b = marker then t.fill = 1#4 ∧ phase t = .filling else t.fill = 0#4 ∧ phase t = .hunt
    | .filling =>
      t.fill.toNat = s.fill.toNat + 1 ∧
        phase t = if s.fill.toNat + 1 = frameLen s.mode then .complete else .filling
    | .complete =>
      if frameLen s.mode < cap then t.fill.toNat = s.fill.toNat + 1 ∧ phase t = .overfill
      else if s.params.overrun = .hold then t.fill = 10#4 ∧ phase t = .complete
      else t.fill = 0#4 ∧ phase t = .hunt
    | .overfill =>
      t.fill.toNat = s.fill.toNat + 1 ∧
        phase t = if s.fill.toNat + 1 = cap then .full else .overfill
    | .full =>
      if s.params.overrun = .hold then t.fill = 10#4 ∧ phase t = .full
      else t.fill = 0#4 ∧ phase t = .hunt) ∧
  (∀ (i : Instr) (s t : State), exec i s = .next t →
    match i with
    | .feed _ => True
    | .decode => t.fill = 0#4 ∧ phase t = .hunt
    | .rstf => t.fill = 0#4 ∧ phase t = .hunt
    | .setmode m =>
      if m = 3#2 then t.fill = s.fill ∧ phase t = phase s
      else t.fill = 0#4 ∧ phase t = .hunt ∧ modeCode t.mode = m
    | .rrcheck _ _ _ => t.fill = s.fill ∧ phase t = phase s
    | .status => t.fill = s.fill ∧ phase t = phase s
    | .reservedMode => t.fill = s.fill ∧ phase t = phase s
    | .reservedOp0 => t.fill = s.fill ∧ phase t = phase s
    | .reservedOp7 => t.fill = s.fill ∧ phase t = phase s
    | .reservedHigh _ => t.fill = s.fill ∧ phase t = phase s)

/-! ### DECODE (42_stream_decode.md) -/

/-- R121, R122: where FILL is not an accepted length of the mode, DECODE answers the sentinel in every requested channel
and clears the frame, and consults no checksum. Nothing else changes. -/
def Obligations.DecodeLengthMismatch : Prop :=
  ∀ s : State, s.fill.toNat ≤ cap →
    (match s.mode with
      | .ch1 => s.fill ≠ 4#4
      | .ch2 => s.fill ≠ 6#4
      | .ch4 => s.fill ≠ 4#4 ∧ s.fill ≠ 6#4 ∧ s.fill ≠ 10#4) →
    exec .decode s =
      .next { s with
        fill := 0#4
        responses := s.responses ++ [.sample (BitVec.ofNat 3 (channels s.mode)) 0#64]
        outcomes := s.outcomes ++ [.frameLengthMismatch] }

/-- R123: where FILL is accepted and the CRC of the bytes BUF[0..FILL-2] is not BUF[FILL-1], DECODE answers the sentinel
in every requested channel and clears the frame. Nothing else changes. -/
def Obligations.DecodeChecksumMismatch : Prop :=
  ∀ (s : State) (h : s.fill.toNat - 1 < 10), s.fill.toNat ∈ accept s.mode →
    crc8 s.rom (s.buf.toList.take (s.fill.toNat - 1)) ≠ s.buf[s.fill.toNat - 1] →
    exec .decode s =
      .next { s with
        fill := 0#4
        responses := s.responses ++ [.sample (BitVec.ofNat 3 (channels s.mode)) 0#64]
        outcomes := s.outcomes ++ [.checksumMismatch] }

/-- R124, R71: where the length and the checksum pass, lane j of the answer is the distance that R124's table gives it:
the mode's own frame in order, a 1-channel frame in 4-channel mode replicated, a 2-channel frame in 4-channel mode by
P_REPL2. Lanes beyond the mode's channels are 0, the frame is cleared, and nothing else changes. -/
def Obligations.DecodeGoodFrame : Prop :=
  ∀ (s : State) (h : s.fill.toNat - 1 < 10), s.fill.toNat ∈ accept s.mode →
    crc8 s.rom (s.buf.toList.take (s.fill.toNat - 1)) = s.buf[s.fill.toNat - 1] →
    ∃ data : BitVec 64,
      exec .decode s =
        .next { s with
          fill := 0#4
          responses := s.responses ++ [.sample (BitVec.ofNat 3 (channels s.mode)) data]
          outcomes := s.outcomes ++ [.ok] } ∧
      (s.fill.toNat = frameLen s.mode → ∀ (j : Nat) (hj : j < 4),
        data.extractLsb' (16 * j) 16 =
          if j < channels s.mode then dist16 s.buf[1 + 2 * j] s.buf[2 + 2 * j] else 0#16) ∧
      (s.mode = .ch4 → s.fill = 4#4 → ∀ j < 4, data.extractLsb' (16 * j) 16 = dist16 s.buf[1] s.buf[2]) ∧
      (s.mode = .ch4 → s.fill = 6#4 → ∀ j < 4,
        data.extractLsb' (16 * j) 16 =
          if (match s.params.repl2 with
            | .abab => j % 2
            | .aabb => j / 2) = 0 then dist16 s.buf[1] s.buf[2] else dist16 s.buf[3] s.buf[4])

/-- R125, R126, R127: every DECODE answers one sample with COUNT = CHANNELS(MODE), clears the frame whatever its outcome,
and leaves MODE, every cell of BUF and all else unchanged. -/
def Obligations.DecodeAlwaysClearsTheFrame : Prop :=
  ∀ s : State, s.fill.toNat ≤ cap → ∃ data o,
    exec .decode s =
      .next { s with
        fill := 0#4
        responses := s.responses ++ [.sample (BitVec.ofNat 3 (channels s.mode)) data]
        outcomes := s.outcomes ++ [o] }

/-- R47, R129: the second of two DECODEs in a row answers the sentinel with FRAME_LENGTH_MISMATCH. -/
def Obligations.SecondDecodeAnswersSentinel : Prop :=
  ∀ s : State, s.fill.toNat ≤ cap → ∃ t, execAll [.decode, .decode] s = .next t ∧
    t.responses.getLast? = some (.sample (BitVec.ofNat 3 (channels s.mode)) 0#64) ∧
    t.outcomes.getLast? = some .frameLengthMismatch ∧ t.responses.length = s.responses.length + 2

/-- R88 for what DECODE answers: with the default table, where the buffered frame passes the length and checksum checks,
the same frame with any one bit of one of its bytes flipped in the buffer is answered with the sentinel. -/
def Obligations.DecodeRejectsSingleBitFlip : Prop :=
  ∀ (s : State) (i k : Nat) (hi : i < 10), s.rom = defaultRom → s.fill.toNat ∈ accept s.mode →
    crcOk s.rom (frame s) = true → i < s.fill.toNat → k < 8 →
    ∃ t, exec .decode { s with buf := s.buf.set i (s.buf[i] ^^^ (1#8 <<< k)) } = .next t ∧
      t.responses = s.responses ++ [.sample (BitVec.ofNat 3 (channels s.mode)) 0#64] ∧
      t.outcomes = s.outcomes ++ [.checksumMismatch] ∧ t.fill = 0#4

/-! ### RRCHECK (43_rr_decode.md) -/

/-- R140, R141: RRCHECK answers the big-endian distance where the CRC of the first two bytes is the third, and the
sentinel otherwise, in every state, and changes nothing else. -/
def Obligations.RrcheckResult : Prop :=
  ∀ (b0 b1 b2 : Byte) (s : State),
    exec (.rrcheck b0 b1 b2) s =
      .next { s with
        responses := s.responses ++
          [.distance (if crc8 s.rom [b0, b1] = b2 then (b0.setWidth 16 <<< 8) ||| b1.setWidth 16 else 0x0000#16)]
        outcomes := s.outcomes ++ [if crc8 s.rom [b0, b1] = b2 then .ok else .checksumMismatch] }

/-- R61, R140: the request/response frame of a distance is answered with that distance, for every distance and table. -/
def Obligations.RrcheckAcceptsItsFrame : Prop :=
  ∀ (d : Distance) (b0 b1 b2 : Byte) (s : State), rrFrame s.rom d = [b0, b1, b2] →
    exec (.rrcheck b0 b1 b2) s =
      .next { s with responses := s.responses ++ [.distance d], outcomes := s.outcomes ++ [.ok] }

/-! ### Control (44_control.md) -/

/-- R150: SETMODE with a legal M sets MODE and clears the frame, also where MODE already holds the value. Nothing else
changes. -/
def Obligations.SetmodeResult : Prop :=
  ∀ (m : BitVec 2) (mode : Mode) (s : State), (m, mode) ∈ [(0#2, Mode.ch1), (1#2, Mode.ch2), (2#2, Mode.ch4)] →
    exec (.setmode m) s =
      .next { s with mode := mode, fill := 0#4, outcomes := s.outcomes ++ [.modeSet] }

/-- R152: RSTF clears the frame and changes nothing else. -/
def Obligations.RstfResult : Prop :=
  ∀ s : State, exec .rstf s = .next { s with fill := 0#4, outcomes := s.outcomes ++ [.frameReset] }

/-- R153, R72: STATUS answers 0 ++ COMPLETE ++ MODE ++ FILL and writes no state. -/
def Obligations.StatusResult : Prop :=
  ∀ s : State, s.fill.toNat ≤ cap → ∃ b : Byte,
    exec .status s =
      .next { s with responses := s.responses ++ [.status b], outcomes := s.outcomes ++ [.statusRead] } ∧
    b.getLsbD 7 = false ∧ b.getLsbD 6 = decide (s.fill.toNat = frameLen s.mode) ∧
    b.extractLsb' 4 2 = modeCode s.mode ∧ b.extractLsb' 0 4 = s.fill

/-- R151, R154 as the model executes them (log 5): a reserved word, and the ill-formed term SETMODE 3 (log 11), change no
state and return no response; the ghost label REFUSED is recorded. -/
def Obligations.ReservedWordsChangeNothing : Prop :=
  ∀ (op : BitVec 3) (s : State),
    exec .reservedMode s = .next { s with outcomes := s.outcomes ++ [.refused] } ∧
    exec .reservedOp0 s = .next { s with outcomes := s.outcomes ++ [.refused] } ∧
    exec .reservedOp7 s = .next { s with outcomes := s.outcomes ++ [.refused] } ∧
    exec (.reservedHigh op) s = .next { s with outcomes := s.outcomes ++ [.refused] } ∧
    exec (.setmode 3#2) s = .next { s with outcomes := s.outcomes ++ [.refused] }

/-! ### The CRC-8 engine (40_crc8.md) -/

/-- R82: the update in the source's words equals the simplified one, for every table and every input. -/
def Obligations.CrcUpdateSimplifies : Prop :=
  ∀ (rom : Rom) (crc b : Byte), crcUpdateLiteral rom crc b = crcUpdate rom crc b

/-- R83: the CRC of nothing is 0, and appending a byte is one table look-up. -/
def Obligations.CrcEmptyAndAppend : Prop :=
  ∀ (rom : Rom) (s : List Byte) (b : Byte),
    crc8 rom [] = 0x00#8 ∧ crc8Len rom s 0 = some 0x00#8 ∧ crc8 rom (s ++ [b]) = romAt rom (crc8 rom s ^^^ b)

/-- R84: the listed default table is the table its generator makes. -/
def Obligations.DefaultTableIsGenerated : Prop :=
  defaultRom = crcTable .msbFirst 0x07#8

/-- R86: every allowed table has ROM[0] = 0 and makes crc8 linear over GF(2). -/
def Obligations.AllowedTablesAreLinear : Prop :=
  ∀ rom : Rom, IsCrcTable rom →
    romAt rom 0#8 = 0#8 ∧
    ∀ s t : List Byte, s.length = t.length → crc8 rom (List.zipWith (· ^^^ ·) s t) = crc8 rom s ^^^ crc8 rom t

/-- R88: with any allowed table, flipping any single bit of a frame that passes the check makes the check fail. -/
def Obligations.SingleBitFlipIsDetected : Prop :=
  ∀ (rom : Rom) (f : List Byte) (i k : Nat) (hi : i < f.length), IsCrcTable rom → k < 8 → crcOk rom f = true →
    crcOk rom (f.set i (f[i] ^^^ (1#8 <<< k))) = false

/-- R90: the worked values, with the default table. -/
def Obligations.CrcWorkedValues : Prop :=
  crc8 defaultRom [] = 0x00#8 ∧ crc8 defaultRom [0x54#8] = 0xAB#8 ∧
  crc8 defaultRom [0x54#8, 0x01#8, 0x2C#8] = 0x5E#8 ∧ crc8 defaultRom [0x01#8, 0x2C#8] = 0xD1#8 ∧
  crc8 defaultRom [0x31#8, 0x32#8, 0x33#8, 0x34#8, 0x35#8, 0x36#8, 0x37#8, 0x38#8, 0x39#8] = 0xF4#8

/-! ### Frames and streams of commands -/

/-- R41: a distance is big-endian, the earlier byte being the high byte. -/
def Obligations.DistancesAreBigEndian : Prop :=
  ∀ hi lo : Byte, dist16 hi lo = hi ++ lo ∧
    (dist16 hi lo).toNat = 256 * hi.toNat + lo.toNat ∧ hiByte (dist16 hi lo) = hi ∧ loByte (dist16 hi lo) = lo

/-- R60, R63: the layout of a streaming frame: the marker, each distance high byte first, and at offset L-1 the CRC of
every byte before it. -/
def Obligations.StreamFrameLayout : Prop :=
  ∀ (rom : Rom) (m : Mode) (ds : List Distance), ds.length = channels m →
    (streamFrame rom ds).length = frameLen m ∧ (streamFrame rom ds)[0]? = some 0x54#8 ∧
    (∀ (j : Nat) (hj : j < ds.length), (streamFrame rom ds)[1 + 2 * j]? = some (ds[j].extractLsb' 8 8) ∧
      (streamFrame rom ds)[2 + 2 * j]? = some (ds[j].extractLsb' 0 8)) ∧
    (streamFrame rom ds)[frameLen m - 1]? = some (crc8 rom ((streamFrame rom ds).take (frameLen m - 1)))

/-- R21, R40: feeding the marker and at most nine bytes from HUNT stores them in arrival order in BUF[0], BUF[1], ...,
whatever the bytes, and changes no other cell and no other field but FILL and the labels. -/
def Obligations.FedBytesAreStoredInOrder : Prop :=
  ∀ (s : State) (bs : List Byte), s.fill = 0#4 → bs.length ≤ 9 →
    ∃ t, execAll ((marker :: bs).map .feed) s = .next t ∧ t.fill.toNat = bs.length + 1 ∧
      frame t = marker :: bs ∧
      (∀ (j : Nat) (hj : j < 10), bs.length < j → t.buf[j] = s.buf[j]) ∧
      t.outcomes = s.outcomes ++ .frameStart :: List.replicate bs.length .appended ∧
      { t with fill := s.fill, buf := s.buf, outcomes := s.outcomes } = s

/-- R203, R60: from HUNT, the frame of any distances of the mode, fed whole and then decoded, is answered with exactly
those distances, once, with every table. -/
def Obligations.IntactFrameIsDecoded : Prop :=
  ∀ (s : State) (ds : List Distance), s.fill = 0#4 → ds.length = channels s.mode →
    ∃ t, execAll ((streamFrame s.rom ds).map .feed ++ [.decode]) s = .next t ∧
      t.responses = s.responses ++ [.sample (BitVec.ofNat 3 (channels s.mode)) (packLanes ds)] ∧
      t.outcomes.getLast? = some .ok ∧ t.fill = 0#4 ∧ t.mode = s.mode

/-- R121, R124 for whole frames: in 4-channel mode the frame of one or of two distances, fed whole and then decoded, is
answered with the replicated distances. -/
def Obligations.ShorterFramesInFourChannelMode : Prop :=
  ∀ (s : State) (d e : Distance), s.fill = 0#4 → s.mode = .ch4 →
    (∃ t, execAll ((streamFrame s.rom [d]).map .feed ++ [.decode]) s = .next t ∧
      t.responses = s.responses ++ [.sample 4#3 (d ++ d ++ d ++ d)] ∧ t.fill = 0#4) ∧
    (∃ t, execAll ((streamFrame s.rom [d, e]).map .feed ++ [.decode]) s = .next t ∧
      t.responses = s.responses ++
        [.sample 4#3 (match s.params.repl2 with
          | .abab => e ++ d ++ e ++ d
          | .aabb => e ++ e ++ d ++ d)] ∧ t.fill = 0#4)

/-- R108, R199: in HUNT, bytes none of which is the marker are discarded and leave the block as it was. -/
def Obligations.MarkerFreeGarbageIsDiscarded : Prop :=
  ∀ (s : State) (bs : List Byte), s.fill = 0#4 → (∀ b ∈ bs, b ≠ 0x54#8) →
    execAll (bs.map .feed) s =
      .next { s with outcomes := s.outcomes ++ List.replicate bs.length .discarded }

/-- R203: under the host's discipline, from a state whose FILL is at most the mode's frame length, every command completes,
none meets a length mismatch or an overrun or is reserved, and FILL stays within the frame length. -/
def Obligations.DisciplinedCommandsStayWithinFrames : Prop :=
  ∀ (i : Instr) (s : State), s.fill.toNat ≤ frameLen s.mode → disciplined i s = true →
    ∃ t o, exec i s = .next t ∧ t.fill.toNat ≤ frameLen t.mode ∧ t.outcomes = s.outcomes ++ [o] ∧
      o ≠ .frameLengthMismatch ∧ o ≠ .bufferOverrun ∧ o ≠ .refused

/-- R49: whatever the interleaving of two sources' words, the block executes every word whole, one label each, stops
nowhere, and ends in a legal state. That this covers streams with reserved words, of which R154 and I3 say that no claim
holds, is the model's choice (log 5): they are no-operations here. -/
def Obligations.EveryInterleavingRunsWhole : Prop :=
  ∀ (s : State) (a b c : List Word), Legal s → s.resetLine = false → Interleaves a b c → s.port = c →
    ∃ t, runSteps (a.length + b.length) s = .next t ∧ Legal t ∧ t.port = [] ∧
      t.outcomes.length = s.outcomes.length + a.length + b.length

/-! ### Several instances (20_memory.md R50) -/

/-- R50, R24: a step of one instance changes no other instance, and all go on reading the same ROM. -/
def Obligations.InstancesShareOnlyRom : Prop :=
  ∀ (k : Nat) (p q : Platform), platformStep k p = .next q →
    (∀ j, j ≠ k → q.instances[j]? = p.instances[j]?) ∧ q.instances.length = p.instances.length ∧
    (∀ rom, SharesRom rom p → SharesRom rom q)

/-- R50, R204: the order of the steps of two different instances cannot be observed. Where a step is a reset, that BUF
ends with the same bytes in both orders is the model's choice of free value (log 4). -/
def Obligations.StepsOfDifferentInstancesCommute : Prop :=
  ∀ (j k : Nat) (p q : Platform), j ≠ k → platformRun [j, k] p = .next q → platformRun [k, j] p = .next q

/-! ### The assembler (30_encoding.md) -/

/-- R76: the expansions of the pseudo-instructions. -/
def Obligations.PseudoInstructionsExpand : Prop :=
  ∀ (rom : Rom) (bs : List Byte) (d d0 d1 d2 d3 : Distance),
    asmExpand rom (.feeds bs) = bs.map .feed ∧
    asmExpand rom (.frame1 d) =
      [.feed 0x54#8, .feed (hiByte d), .feed (loByte d), .feed (crc8 rom [0x54#8, hiByte d, loByte d])] ∧
    asmExpand rom (.frame2 d0 d1) =
      [.feed 0x54#8, .feed (hiByte d0), .feed (loByte d0), .feed (hiByte d1), .feed (loByte d1),
        .feed (crc8 rom [0x54#8, hiByte d0, loByte d0, hiByte d1, loByte d1])] ∧
    asmExpand rom (.frame4 d0 d1 d2 d3) =
      [.feed 0x54#8, .feed (hiByte d0), .feed (loByte d0), .feed (hiByte d1), .feed (loByte d1),
        .feed (hiByte d2), .feed (loByte d2), .feed (hiByte d3), .feed (loByte d3),
        .feed (crc8 rom [0x54#8, hiByte d0, loByte d0, hiByte d1, loByte d1, hiByte d2, loByte d2, hiByte d3,
          loByte d3])] ∧
    asmExpand rom (.rrframe d) = [.rrcheck (hiByte d) (loByte d) (crc8 rom [hiByte d, loByte d])]

/-- R75: every row of the table, for every operand in the spellings of `byteSpellings` and `modeSpellings`: the line parses
to its command and assembles to its word, with 0 in every ignored bit, also with a comment behind it. The spellings of a
byte are decimal without leading zeros, hexadecimal after `0x` with as few digits as it takes or with two, all lower case or
all upper case, and a printable ASCII character in quotes; of a mode, the six of R75. Other leading zeros and digits of mixed
case are not spoken of. The case of the digits, leading zeros, the one blank after the mnemonic and the none or one after
each comma are the model's choice, since R75 shows them in examples only (log 17). -/
def Obligations.AssemblerWords : Prop :=
  (∀ b : Byte, ∀ t ∈ byteSpellings b,
    AssemblesTo ("FEED ".toList ++ t) (.feed b) (0x10000000#32 ||| b.setWidth 32)) ∧
  AssemblesTo "DECODE".toList .decode 0x20000000#32 ∧
  AssemblesTo "RSTF".toList .rstf 0x30000000#32 ∧
  (∀ m : BitVec 2, m ≠ 3#2 → modeSpellings m ≠ [] ∧ ∀ t ∈ modeSpellings m,
    AssemblesTo ("SETMODE ".toList ++ t) (.setmode m) (0x40000000#32 ||| m.setWidth 32)) ∧
  (∀ b0 b1 b2 : Byte, ∀ t0 ∈ byteSpellings b0, ∀ t1 ∈ byteSpellings b1, ∀ t2 ∈ byteSpellings b2,
    ∀ comma ∈ [",".toList, ", ".toList],
      AssemblesTo ("RRCHECK ".toList ++ t0 ++ comma ++ t1 ++ comma ++ t2) (.rrcheck b0 b1 b2)
        (0x50000000#32 ||| b0.setWidth 32 <<< 16 ||| b1.setWidth 32 <<< 8 ||| b2.setWidth 32)) ∧
  AssemblesTo "STATUS".toList .status 0x60000000#32
end

