-- ==== Sys2Proof/Laws/Assembler.lean ====
section
/-! SUPPORT. What the lexer does with the pieces of a line: plain words, spellings of bytes, comments, mnemonics. -/

namespace Sys2Proof.Machine

set_option maxRecDepth 20000

/-- A character that only lengthens the word it stands in. -/
def isPlain (c : Char) : Bool := c != ';' && c != ',' && c != '\'' && c != ' ' && c != '\t'

/-- What may follow a word without a blank: the end of the line, a comment or a comma. -/
def EndsWord (rest : List Char) : Prop := rest = [] ∨ rest.head? = some ';' ∨ rest.head? = some ','

theorem lexLine_plain_append (cs : List Char) (h : cs.all isPlain = true) (acc rest : List Char) :
    lexLine acc (cs ++ rest) = lexLine (cs.reverse ++ acc) rest := by
  induction cs generalizing acc with
  | nil => rfl
  | cons c cs ih =>
    simp only [List.all_cons, Bool.and_eq_true] at h
    rw [List.cons_append]
    have hc := h.1
    simp [isPlain] at hc
    rw [lexLine.eq_def]
    split <;> simp_all

theorem lexLine_endsWord (acc rest : List Char) (h : EndsWord rest) :
    lexLine acc rest = (lexLine [] rest).map (endWord acc) := by
  cases rest with
  | nil => simp [lexLine, endWord]
  | cons c cs =>
    rcases h with h | h | h <;> simp at h <;> subst h
    · simp [lexLine, endWord]
    · simp only [lexLine, Option.map_map]; congr 1

theorem endWord_reverse (cs : List Char) (h : cs ≠ []) : endWord cs.reverse = (.word cs :: ·) := by
  funext ts; simp [endWord, h]

theorem lexLine_comment {c : List Char} (h : c = [] ∨ c.head? = some ';') : lexLine [] c = some [] := by
  cases c with
  | nil => rfl
  | cons x xs => simp at h; subst h; rfl

theorem endsWord_comment {c : List Char} (h : c = [] ∨ c.head? = some ';') : EndsWord c := h.imp_right .inl

theorem lexLine_mnemonic (m : List Char) (hm : m.all isPlain = true) (h : m ≠ []) (rest : List Char) :
    lexLine [] (m ++ ' ' :: rest) = (lexLine [] rest).map (.word m :: ·) := by
  rw [lexLine_plain_append _ hm, List.append_nil, ← endWord_reverse _ h]; simp [lexLine]

theorem decimal_spelling : ∀ n < 256,
    ((Nat.toDigits 10 n).all isPlain = true ∧ Nat.toDigits 10 n ≠ []) ∧
      numberValue (Nat.toDigits 10 n) = some n := by decide

theorem hex_spelling : ∀ n < 256, ∀ ds ∈ hexDigits n,
    ds.all isPlain = true ∧ numberValue ('0' :: 'x' :: ds) = some n := by decide

theorem quoted_spelling : ∀ n < 127, (Char.ofNat n).toNat = n := by decide

/-- Every spelling of a byte is one token, whose value is the byte. -/
theorem lexLine_byteSpelling (b : Byte) (t : List Char) (h : t ∈ byteSpellings b) :
    ∃ tok, tok ≠ .comma ∧ operandValue tok = some b.toNat ∧
      ∀ rest, EndsWord rest → lexLine [] (t ++ rest) = (lexLine [] rest).map (tok :: ·) := by
  have hb := b.isLt
  simp only [byteSpellings, List.cons_append, List.mem_cons, List.mem_append, List.mem_map] at h
  rcases h with rfl | ⟨ds, hds, rfl⟩ | h
  · have ⟨⟨h1, h2⟩, h3⟩ := decimal_spelling b.toNat hb
    refine ⟨.word (Nat.toDigits 10 b.toNat), by simp, h3, fun rest hr => ?_⟩
    rw [lexLine_plain_append _ h1, lexLine_endsWord _ _ hr, List.append_nil, endWord_reverse _ h2]
  · have ⟨h1, h3⟩ := hex_spelling b.toNat hb ds hds
    refine ⟨.word ('0' :: 'x' :: ds), by simp, h3, fun rest hr => ?_⟩
    rw [lexLine_plain_append _ (by simp [h1]; decide), lexLine_endsWord _ _ hr, List.append_nil,
      endWord_reverse _ (by simp)]
  · split at h
    · simp at h; subst h
      have hv := quoted_spelling b.toNat (by omega)
      exact ⟨.quoted (Char.ofNat b.toNat), by simp, by simp [operandValue, hv]; omega,
        fun rest _ => by simp [lexLine, endWord]⟩
    · simp at h

end Sys2Proof.Machine
end

