-- ==== Sys2Proof/Laws/Decode.lean ====
section
/-! SUPPORT. What the decoder can answer, said once, and the bits of its fields. -/

namespace Sys2Proof

/-- An opcode that is none of 0x0 to 0x7 has its top bit set. -/
theorem opcode_high : ∀ op : BitVec 4,
    (op ≠ 0x0#4 ∧ op ≠ 0x1#4 ∧ op ≠ 0x2#4 ∧ op ≠ 0x3#4 ∧ op ≠ 0x4#4 ∧ op ≠ 0x5#4 ∧ op ≠ 0x6#4 ∧ op ≠ 0x7#4) →
      op.getLsbD 3 = true := by
  decide

/-- The cases of `decode`, by OP and, for OP = 0x4, by M. -/
theorem decode_cases (w : Word) :
    (opField w = 0x0#4 ∧ decode w = .reservedOp0) ∨
    (opField w = 0x1#4 ∧ decode w = .feed (byteField0 w)) ∨
    (opField w = 0x2#4 ∧ decode w = .decode) ∨
    (opField w = 0x3#4 ∧ decode w = .rstf) ∨
    (opField w = 0x4#4 ∧ modeField w = 3#2 ∧ decode w = .reservedMode) ∨
    (opField w = 0x4#4 ∧ modeField w ≠ 3#2 ∧ decode w = .setmode (modeField w)) ∨
    (opField w = 0x5#4 ∧ decode w = .rrcheck (byteField2 w) (byteField1 w) (byteField0 w)) ∨
    (opField w = 0x6#4 ∧ decode w = .status) ∨
    (opField w = 0x7#4 ∧ decode w = .reservedOp7) ∨
    ((opField w).getLsbD 3 = true ∧ decode w = .reservedHigh ((opField w).extractLsb' 0 3)) := by
  unfold decode
  split <;> try simp_all
  · exact em _
  · rename_i h0 h1 h2 h3 h4 h5 h6 h7
    exact opcode_high _ ⟨h0, h1, h2, h3, h4, h5, h6, h7⟩

/-- Bit `k` of OP is bit `28 + k` of the word. -/
theorem opField_getLsbD (w : Word) {k : Nat} (h : k < 4) : (opField w).getLsbD k = w.getLsbD (28 + k) := by
  simp [opField]
  omega

end Sys2Proof
end

