-- ==== Sys2Proof/Laws/State.lean ====
section
/-! SUPPORT. One lemma for each field and each update of the state, true by `rfl`. -/

namespace Sys2Proof.Machine

variable (s : State)

@[simp] theorem setFill_fill (n : BitVec 4) : (setFill s n).fill = n := rfl
@[simp] theorem setFill_buf (n : BitVec 4) : (setFill s n).buf = s.buf := rfl
@[simp] theorem setFill_mode (n : BitVec 4) : (setFill s n).mode = s.mode := rfl
@[simp] theorem setFill_rom (n : BitVec 4) : (setFill s n).rom = s.rom := rfl
@[simp] theorem setFill_params (n : BitVec 4) : (setFill s n).params = s.params := rfl
@[simp] theorem setFill_port (n : BitVec 4) : (setFill s n).port = s.port := rfl
@[simp] theorem setFill_resetLine (n : BitVec 4) : (setFill s n).resetLine = s.resetLine := rfl
@[simp] theorem setFill_responses (n : BitVec 4) : (setFill s n).responses = s.responses := rfl
@[simp] theorem setFill_outcomes (n : BitVec 4) : (setFill s n).outcomes = s.outcomes := rfl
@[simp] theorem setFill_resetCount (n : BitVec 4) : (setFill s n).resetCount = s.resetCount := rfl

@[simp] theorem setMode_fill (m : Mode) : (setMode s m).fill = s.fill := rfl
@[simp] theorem setMode_buf (m : Mode) : (setMode s m).buf = s.buf := rfl
@[simp] theorem setMode_mode (m : Mode) : (setMode s m).mode = m := rfl
@[simp] theorem setMode_rom (m : Mode) : (setMode s m).rom = s.rom := rfl
@[simp] theorem setMode_params (m : Mode) : (setMode s m).params = s.params := rfl
@[simp] theorem setMode_port (m : Mode) : (setMode s m).port = s.port := rfl
@[simp] theorem setMode_resetLine (m : Mode) : (setMode s m).resetLine = s.resetLine := rfl
@[simp] theorem setMode_responses (m : Mode) : (setMode s m).responses = s.responses := rfl
@[simp] theorem setMode_outcomes (m : Mode) : (setMode s m).outcomes = s.outcomes := rfl
@[simp] theorem setMode_resetCount (m : Mode) : (setMode s m).resetCount = s.resetCount := rfl

@[simp] theorem writeCell_fill (i : Nat) (b : Byte) : (writeCell s i b).fill = s.fill := rfl
@[simp] theorem writeCell_buf (i : Nat) (b : Byte) : (writeCell s i b).buf = s.buf.setIfInBounds i b := rfl
@[simp] theorem writeCell_mode (i : Nat) (b : Byte) : (writeCell s i b).mode = s.mode := rfl
@[simp] theorem writeCell_rom (i : Nat) (b : Byte) : (writeCell s i b).rom = s.rom := rfl
@[simp] theorem writeCell_params (i : Nat) (b : Byte) : (writeCell s i b).params = s.params := rfl
@[simp] theorem writeCell_port (i : Nat) (b : Byte) : (writeCell s i b).port = s.port := rfl
@[simp] theorem writeCell_resetLine (i : Nat) (b : Byte) : (writeCell s i b).resetLine = s.resetLine := rfl
@[simp] theorem writeCell_responses (i : Nat) (b : Byte) : (writeCell s i b).responses = s.responses := rfl
@[simp] theorem writeCell_outcomes (i : Nat) (b : Byte) : (writeCell s i b).outcomes = s.outcomes := rfl
@[simp] theorem writeCell_resetCount (i : Nat) (b : Byte) : (writeCell s i b).resetCount = s.resetCount := rfl

@[simp] theorem respond_fill (r : Response) : (respond s r).fill = s.fill := rfl
@[simp] theorem respond_buf (r : Response) : (respond s r).buf = s.buf := rfl
@[simp] theorem respond_mode (r : Response) : (respond s r).mode = s.mode := rfl
@[simp] theorem respond_rom (r : Response) : (respond s r).rom = s.rom := rfl
@[simp] theorem respond_params (r : Response) : (respond s r).params = s.params := rfl
@[simp] theorem respond_port (r : Response) : (respond s r).port = s.port := rfl
@[simp] theorem respond_resetLine (r : Response) : (respond s r).resetLine = s.resetLine := rfl
@[simp] theorem respond_responses (r : Response) : (respond s r).responses = s.responses ++ [r] := rfl
@[simp] theorem respond_outcomes (r : Response) : (respond s r).outcomes = s.outcomes := rfl
@[simp] theorem respond_resetCount (r : Response) : (respond s r).resetCount = s.resetCount := rfl

@[simp] theorem observe_fill (o : OutcomeLabel) : (observe s o).fill = s.fill := rfl
@[simp] theorem observe_buf (o : OutcomeLabel) : (observe s o).buf = s.buf := rfl
@[simp] theorem observe_mode (o : OutcomeLabel) : (observe s o).mode = s.mode := rfl
@[simp] theorem observe_rom (o : OutcomeLabel) : (observe s o).rom = s.rom := rfl
@[simp] theorem observe_params (o : OutcomeLabel) : (observe s o).params = s.params := rfl
@[simp] theorem observe_port (o : OutcomeLabel) : (observe s o).port = s.port := rfl
@[simp] theorem observe_resetLine (o : OutcomeLabel) : (observe s o).resetLine = s.resetLine := rfl
@[simp] theorem observe_responses (o : OutcomeLabel) : (observe s o).responses = s.responses := rfl
@[simp] theorem observe_outcomes (o : OutcomeLabel) : (observe s o).outcomes = s.outcomes ++ [o] := rfl
@[simp] theorem observe_resetCount (o : OutcomeLabel) : (observe s o).resetCount = s.resetCount := rfl

@[simp] theorem clearFrame_fill : (clearFrame s).fill = 0#4 := rfl
@[simp] theorem clearFrame_buf : (clearFrame s).buf = s.buf := rfl
@[simp] theorem clearFrame_mode : (clearFrame s).mode = s.mode := rfl
@[simp] theorem clearFrame_rom : (clearFrame s).rom = s.rom := rfl
@[simp] theorem clearFrame_params : (clearFrame s).params = s.params := rfl
@[simp] theorem clearFrame_port : (clearFrame s).port = s.port := rfl
@[simp] theorem clearFrame_resetLine : (clearFrame s).resetLine = s.resetLine := rfl
@[simp] theorem clearFrame_responses : (clearFrame s).responses = s.responses := rfl
@[simp] theorem clearFrame_outcomes : (clearFrame s).outcomes = s.outcomes := rfl
@[simp] theorem clearFrame_resetCount : (clearFrame s).resetCount = s.resetCount := rfl

@[simp] theorem reservedNoOp_fill : (reservedNoOp s).fill = s.fill := rfl
@[simp] theorem reservedNoOp_buf : (reservedNoOp s).buf = s.buf := rfl
@[simp] theorem reservedNoOp_mode : (reservedNoOp s).mode = s.mode := rfl
@[simp] theorem reservedNoOp_rom : (reservedNoOp s).rom = s.rom := rfl
@[simp] theorem reservedNoOp_params : (reservedNoOp s).params = s.params := rfl
@[simp] theorem reservedNoOp_port : (reservedNoOp s).port = s.port := rfl
@[simp] theorem reservedNoOp_resetLine : (reservedNoOp s).resetLine = s.resetLine := rfl
@[simp] theorem reservedNoOp_responses : (reservedNoOp s).responses = s.responses := rfl
@[simp] theorem reservedNoOp_outcomes : (reservedNoOp s).outcomes = s.outcomes ++ [.refused] := rfl
@[simp] theorem reservedNoOp_resetCount : (reservedNoOp s).resetCount = s.resetCount := rfl

@[simp] theorem takeReset_fill : (takeReset s).fill = 0#4 := rfl
@[simp] theorem takeReset_buf : (takeReset s).buf = Vector.ofFn fun i => Config.freeByte s.resetCount i.val := rfl
@[simp] theorem takeReset_mode : (takeReset s).mode = .ch1 := rfl
@[simp] theorem takeReset_rom : (takeReset s).rom = s.rom := rfl
@[simp] theorem takeReset_params : (takeReset s).params = s.params := rfl
@[simp] theorem takeReset_port : (takeReset s).port = [] := rfl
@[simp] theorem takeReset_resetLine : (takeReset s).resetLine = false := rfl
@[simp] theorem takeReset_responses : (takeReset s).responses = s.responses := rfl
@[simp] theorem takeReset_outcomes : (takeReset s).outcomes = s.outcomes := rfl
@[simp] theorem takeReset_resetCount : (takeReset s).resetCount = s.resetCount + 1 := rfl

@[simp] theorem resetWith_fill (rom : Rom) (params : Params) : (State.resetWith rom params).fill = 0#4 := rfl
@[simp] theorem resetWith_buf (rom : Rom) (params : Params) : (State.resetWith rom params).buf = Vector.replicate 10 0#8 := rfl
@[simp] theorem resetWith_mode (rom : Rom) (params : Params) : (State.resetWith rom params).mode = .ch1 := rfl
@[simp] theorem resetWith_rom (rom : Rom) (params : Params) : (State.resetWith rom params).rom = rom := rfl
@[simp] theorem resetWith_params (rom : Rom) (params : Params) : (State.resetWith rom params).params = params := rfl
@[simp] theorem resetWith_port (rom : Rom) (params : Params) : (State.resetWith rom params).port = [] := rfl
@[simp] theorem resetWith_resetLine (rom : Rom) (params : Params) : (State.resetWith rom params).resetLine = false := rfl
@[simp] theorem resetWith_responses (rom : Rom) (params : Params) : (State.resetWith rom params).responses = [] := rfl
@[simp] theorem resetWith_outcomes (rom : Rom) (params : Params) : (State.resetWith rom params).outcomes = [] := rfl
@[simp] theorem resetWith_resetCount (rom : Rom) (params : Params) : (State.resetWith rom params).resetCount = 0 := rfl

end Sys2Proof.Machine
end

