-- ==== Sys2Proof/Laws/Ops.lean ====
section
/-! SUPPORT. What each shared operation can do, said once. -/

namespace Sys2Proof.Machine

/-- `CAP` is 10 (00_scope.md R6). -/
theorem cap_eq : cap = 10 := rfl

/-! ### Reading FILL -/

/-- A command that reads FILL completes where FILL is legal. -/
theorem withLegalFill_of_le {s t : State} (h : s.fill.toNat ≤ cap) : withLegalFill s t = .next t := by
  simp [withLegalFill, h]

/-- If it answers a next state, FILL was legal and the state is the one given. -/
theorem withLegalFill_next {s t u : State} (h : withLegalFill s t = .next u) : s.fill.toNat ≤ cap ∧ u = t := by
  unfold withLegalFill at h
  split at h
  · exact ⟨‹_›, by cases h; rfl⟩
  · cases h

/-- If it faults, FILL was illegal. -/
theorem withLegalFill_fault {s t : State} {r : Fault} (h : withLegalFill s t = .fault r) :
    cap < s.fill.toNat ∧ r = .fillOutOfRange s.fill := by
  unfold withLegalFill at h
  split at h
  · cases h
  · exact ⟨by omega, by cases h; rfl⟩

/-- It never refuses. -/
theorem withLegalFill_not_refused {s t : State} {r : Refusal} : withLegalFill s t ≠ .refused r := by
  unfold withLegalFill
  split <;> simp

/-! ### The frame -/

@[simp] theorem frame_length (s : State) : (frame s).length = min s.fill.toNat 10 := by simp [frame]

/-- With FILL legal the frame has FILL bytes. -/
theorem frame_length_of_le {s : State} (h : s.fill.toNat ≤ cap) : (frame s).length = s.fill.toNat := by
  have h' : s.fill.toNat ≤ 10 := h
  simp [h']

/-- Byte `i` of the frame is cell `i` of the buffer. -/
theorem frame_getElem {s : State} {i : Nat} (h : i < s.fill.toNat) (h' : i < 10) :
    (frame s)[i]? = some s.buf[i] := by
  simp [frame, h, h']

@[simp] theorem frame_respond (s : State) (r : Response) : frame (respond s r) = frame s := rfl
@[simp] theorem frame_observe (s : State) (o : OutcomeLabel) : frame (observe s o) = frame s := rfl
@[simp] theorem frame_setMode (s : State) (m : Mode) : frame (setMode s m) = frame s := rfl
@[simp] theorem frame_clearFrame (s : State) : frame (clearFrame s) = [] := by simp [frame]

/-! ### Cells -/

/-- Writing a cell changes no other cell. -/
theorem writeCell_getElem_ne {s : State} {i j : Nat} (b : Byte) (hj : j < 10) (h : i ≠ j) :
    (writeCell s i b).buf[j] = s.buf[j] := by
  simp [h]

/-- The cell written holds the byte. -/
theorem writeCell_getElem_self {s : State} {i : Nat} (b : Byte) (hi : i < 10) : (writeCell s i b).buf[i] = b := by
  simp

/-! ### Modes -/

theorem modeOfCode_modeCode (m : Mode) : modeOfCode (modeCode m) = some m := by cases m <;> rfl

/-- The mode a code names has that code. -/
theorem modeCode_of_modeOfCode {c : BitVec 2} {m : Mode} (h : modeOfCode c = some m) : modeCode m = c := by
  revert h
  revert c m
  decide

/-- A code other than 3 names a mode, whose code it is. -/
theorem modeOfCode_of_ne {c : BitVec 2} (h : c ≠ 3#2) : ∃ m, modeOfCode c = some m ∧ modeCode m = c := by
  revert h
  revert c
  decide

/-- The codes of the three modes are not 3. -/
theorem modeCode_ne (m : Mode) : modeCode m ≠ 3#2 := by cases m <;> decide

/-- Frame lengths lie between 4 and CAP. -/
theorem frameLen_bounds (m : Mode) : 4 ≤ frameLen m ∧ frameLen m ≤ cap := by cases m <;> decide

/-- The length of the mode's own frame is always accepted. -/
theorem frameLen_mem_accept (m : Mode) : frameLen m ∈ accept m := by cases m <;> decide

/-! ### Taking a command, a reset -/

theorem takeCommand_nil {s : State} (h : s.port = []) : takeCommand s = none := by simp [takeCommand, h]

theorem takeCommand_cons {s : State} {w : Word} {ws : List Word} (h : s.port = w :: ws) :
    takeCommand s = some (decode w, { s with port := ws }) := by
  simp [takeCommand, h]

/-- What one step can do: take a reset, wait, or execute the oldest pending command. -/
theorem step_cases (s : State) :
    (s.resetLine = true ∧ step s = .next (takeReset s)) ∨
    (s.resetLine = false ∧ s.port = [] ∧ step s = .next s) ∨
    (∃ w ws, s.resetLine = false ∧ s.port = w :: ws ∧ step s = exec (decode w) { s with port := ws }) := by
  cases hr : s.resetLine with
  | true => exact .inl ⟨rfl, by simp [step, hr]⟩
  | false =>
    cases hp : s.port with
    | nil => exact .inr (.inl ⟨rfl, rfl, by simp [step, hr, takeCommand_nil hp]⟩)
    | cons w ws => exact .inr (.inr ⟨w, ws, rfl, rfl, by simp [step, hr, takeCommand_cons hp]⟩)

end Sys2Proof.Machine
end

