-- ==== Sys2Proof/Laws/Exec.lean ====
section
/-! SUPPORT. What each command can do, said once: the cases of its meaning. -/

namespace Sys2Proof.Machine

/-- FEED: FILL was legal, and one of the cases of R101 applies. -/
theorem execFeed_cases {b : Byte} {s t : State} (h : execFeed b s = .next t) :
    s.fill.toNat ≤ cap ∧
    ((s.fill = 0#4 ∧ b = marker ∧ t = observe (setFill (writeCell s 0 b) 1#4) .frameStart) ∨
     (s.fill = 0#4 ∧ b ≠ marker ∧ t = observe s .discarded) ∨
     (s.fill ≠ 0#4 ∧ s.fill.toNat < cap ∧
       t = observe (setFill (writeCell s s.fill.toNat b) (s.fill + 1#4)) .appended) ∨
     (s.fill.toNat = cap ∧ s.params.overrun = .hold ∧ t = observe s .bufferOverrun) ∨
     (s.fill.toNat = cap ∧ s.params.overrun = .restart ∧ t = observe (setFill s 0#4) .bufferOverrun)) := by
  obtain ⟨hle, rfl⟩ := withLegalFill_next h
  refine ⟨hle, ?_⟩
  unfold feedByte feedHunt feedAppend feedOverrun
  split
  · split <;> simp_all
  · rename_i h0
    split
    · simp_all
    · have : s.fill.toNat = cap := by omega
      split <;> simp_all

/-- The increment of FILL does not wrap (R103). -/
theorem fill_add_one_toNat {s : State} (h : s.fill.toNat < cap) : (s.fill + 1#4).toNat = s.fill.toNat + 1 := by
  have h' : s.fill.toNat < 10 := h
  rw [BitVec.toNat_add]
  simp
  omega

/-- DECODE: FILL was legal; one response and one label, and FILL becomes 0 (R126, R127). -/
theorem execDecode_next {s t : State} (h : execDecode s = .next t) :
    s.fill.toNat ≤ cap ∧
    t = observe (respond (clearFrame s) (sampleResponse (channels s.mode) (decodeAttempt s).2)) (decodeAttempt s).1 :=
  withLegalFill_next h

/-- The cases of a decode attempt (R128). -/
theorem decodeAttempt_cases (s : State) :
    (s.fill.toNat ∉ accept s.mode ∧ decodeAttempt s = (.frameLengthMismatch, sentinels (channels s.mode))) ∨
    (s.fill.toNat ∈ accept s.mode ∧ crcOk s.rom (frame s) = false ∧
      decodeAttempt s = (.checksumMismatch, sentinels (channels s.mode))) ∨
    (s.fill.toNat ∈ accept s.mode ∧ crcOk s.rom (frame s) = true ∧
      decodeAttempt s = (.ok, fillLanes s.params.repl2 (channels s.mode) (channelValues (frame s)))) := by
  unfold decodeAttempt
  split
  · simp_all
  · split <;> simp_all

/-- RRCHECK answers in every state, and writes no state (R140, R141). -/
theorem execRrcheck_next (b0 b1 b2 : Byte) (s : State) :
    ∃ r o, execRrcheck b0 b1 b2 s = .next (observe (respond s r) o) ∧
      (o = .ok ∨ o = .checksumMismatch) := by
  unfold execRrcheck
  split
  · exact ⟨_, _, rfl, .inl rfl⟩
  · exact ⟨_, _, rfl, .inr rfl⟩

/-- SETMODE: a legal code sets the mode and clears the frame; the code 3 changes nothing (R150, R151). -/
theorem execSetmode_cases (m : BitVec 2) (s : State) :
    (∃ mode, modeOfCode m = some mode ∧ execSetmode m s = .next (observe (clearFrame (setMode s mode)) .modeSet)) ∨
    (modeOfCode m = none ∧ execSetmode m s = .next (reservedNoOp s)) := by
  unfold execSetmode
  cases modeOfCode m <;> simp

/-- STATUS: FILL was legal; one response and one label (R153). -/
theorem execStatus_next {s t : State} (h : execStatus s = .next t) :
    s.fill.toNat ≤ cap ∧ t = observe (respond s (.status (statusByte s))) .statusRead :=
  withLegalFill_next h

/-- Everything a command can do, said once: it answers at most one response and records one label, may change the mode
only as SETMODE, and leaves FILL and BUF, clears FILL, or appends one byte as FEED. No other field changes. -/
theorem exec_cases {i : Instr} {s t : State} (h : exec i s = .next t) :
    ∃ f m b r o,
      t = { s with fill := f, mode := m, buf := b, responses := s.responses ++ r, outcomes := s.outcomes ++ [o] } ∧
      (m = s.mode ∨ ∃ c, i = .setmode c ∧ modeCode m = c) ∧ r.length ≤ 1 ∧
      ((f = s.fill ∧ b = s.buf) ∨ (f = 0#4 ∧ b = s.buf) ∨
        (∃ c, i = .feed c ∧ s.fill.toNat < cap ∧ f.toNat = s.fill.toNat + 1 ∧
          b = s.buf.setIfInBounds s.fill.toNat c)) := by
  cases i with
  | feed b =>
    obtain ⟨-, ⟨h0, rfl, rfl⟩ | ⟨-, -, rfl⟩ | ⟨-, h1, rfl⟩ | ⟨-, -, rfl⟩ | ⟨-, -, rfl⟩⟩ := execFeed_cases h
    · exact ⟨1#4, s.mode, (writeCell s 0 marker).buf, [], .frameStart, by simp [observe, setFill, writeCell],
        .inl rfl, by simp, .inr (.inr ⟨marker, rfl, by simp [h0, cap], by simp [h0], by simp [h0]⟩)⟩
    · exact ⟨s.fill, s.mode, s.buf, [], .discarded, by simp [observe], .inl rfl, by simp, .inl ⟨rfl, rfl⟩⟩
    · exact ⟨s.fill + 1#4, s.mode, (writeCell s s.fill.toNat b).buf, [], .appended,
        by simp [observe, setFill, writeCell], .inl rfl, by simp,
        .inr (.inr ⟨b, rfl, h1, fill_add_one_toNat h1, rfl⟩)⟩
    · exact ⟨s.fill, s.mode, s.buf, [], .bufferOverrun, by simp [observe], .inl rfl, by simp, .inl ⟨rfl, rfl⟩⟩
    · exact ⟨0#4, s.mode, s.buf, [], .bufferOverrun, by simp [observe, setFill], .inl rfl, by simp,
        .inr (.inl ⟨rfl, rfl⟩)⟩
  | decode =>
    obtain ⟨-, rfl⟩ := execDecode_next h
    exact ⟨0#4, s.mode, s.buf, [_], _, rfl, .inl rfl, by simp, .inr (.inl ⟨rfl, rfl⟩)⟩
  | rstf =>
    cases h
    exact ⟨0#4, s.mode, s.buf, [], .frameReset, by simp [observe, clearFrame, setFill], .inl rfl, by simp,
      .inr (.inl ⟨rfl, rfl⟩)⟩
  | setmode m =>
    obtain ⟨md, hm, h'⟩ | ⟨-, h'⟩ := execSetmode_cases m s <;> rw [exec, h'] at h <;> cases h
    · exact ⟨0#4, md, s.buf, [], .modeSet, by simp [observe, clearFrame, setFill, setMode],
        .inr ⟨m, rfl, modeCode_of_modeOfCode hm⟩, by simp, .inr (.inl ⟨rfl, rfl⟩)⟩
    · exact ⟨s.fill, s.mode, s.buf, [], .refused, by simp [observe, reservedNoOp], .inl rfl, by simp,
        .inl ⟨rfl, rfl⟩⟩
  | rrcheck b0 b1 b2 =>
    obtain ⟨r, o, h', -⟩ := execRrcheck_next b0 b1 b2 s
    rw [exec, h'] at h
    cases h
    exact ⟨s.fill, s.mode, s.buf, [r], o, rfl, .inl rfl, by simp, .inl ⟨rfl, rfl⟩⟩
  | status =>
    obtain ⟨-, rfl⟩ := execStatus_next h
    exact ⟨s.fill, s.mode, s.buf, [_], _, rfl, .inl rfl, by simp, .inl ⟨rfl, rfl⟩⟩
  | reservedMode | reservedOp0 | reservedOp7 | reservedHigh op =>
    cases h
    exact ⟨s.fill, s.mode, s.buf, [], .refused, by simp [observe, reservedNoOp], .inl rfl, by simp, .inl ⟨rfl, rfl⟩⟩

end Sys2Proof.Machine
end

