-- ==== Sys2Proof/Laws/Operands.lean ====
section
/-! SUPPORT. Small facts about accepted lengths, distances and lanes, for the lemmas about DECODE. -/

namespace Sys2Proof.Machine

/-- Every accepted length is 4, 6 or 10 (42_stream_decode.md R121). -/
theorem accept_cases {s : State} (h : s.fill.toNat ∈ accept s.mode) :
    s.fill.toNat = 4 ∨ s.fill.toNat = 6 ∨ s.fill.toNat = 10 := by
  revert h
  cases s.mode <;> simp [accept] <;> omega

/-- An accepted length is a legal FILL. -/
theorem accept_le_cap {s : State} (h : s.fill.toNat ∈ accept s.mode) : s.fill.toNat ≤ cap := by
  rcases accept_cases h with h | h | h <;> simp [h, cap]

/-- The buffer is its ten cells. -/
theorem buf_eq_cells (b : Vector Byte 10) :
    b = #v[b[0], b[1], b[2], b[3], b[4], b[5], b[6], b[7], b[8], b[9]] := by
  ext i hi
  interval_cases i <;> rfl

/-- A distance is made of its two bytes. -/
theorem dist16_bytes (d : Distance) : dist16 (hiByte d) (loByte d) = d := by
  apply BitVec.eq_of_getLsbD_eq
  intro k hk
  interval_cases k <;> simp [hiByte, loByte, dist16]

/-- Reading distances back from their data bytes. -/
theorem pairDistances_dataBytes (ds : List Distance) : pairDistances (dataBytes ds) = ds := by
  induction ds with
  | nil => rfl
  | cons d ds ih => simpa [dataBytes, pairDistances, dist16_bytes] using ih

/-- Lane `j` of DATA is entry `j` of the output (30_encoding.md R71). -/
theorem packLanes_lane (out : List Distance) {j : Nat} (hj : j < 4) :
    (packLanes out).extractLsb' (16 * j) 16 = out.getD j 0#16 := by
  unfold packLanes
  apply BitVec.eq_of_getLsbD_eq
  intro k hk
  simp only [BitVec.getLsbD_extractLsb', BitVec.getLsbD_append, hk]
  interval_cases j <;> simp [hk] <;> grind

/-- The sentinel in every channel packs to zero DATA. -/
theorem packLanes_sentinels (m : Mode) : packLanes (sentinels (channels m)) = 0#64 := by cases m <;> decide

end Sys2Proof.Machine
end

