-- ==== Sys2Proof/Laws/PerInstr.lean ====
section
/-! SUPPORT. Statements made of every instruction, one lemma for each constructor. -/

namespace Sys2Proof.Laws

/-- The word the encoder writes for a well-formed instruction belongs to the instruction's own row of
spec/opcode_table.json (30_encoding.md R74). -/
def RowCovers.Statement (i : Instr) : Prop := i.wellFormed = true → i.row.covers (encode i) = true

theorem RowCovers.feed (b : Byte) : RowCovers.Statement (.feed b) := by
  unfold RowCovers.Statement; revert b; decide

theorem RowCovers.decode : RowCovers.Statement .decode := by intro _; decide

theorem RowCovers.rstf : RowCovers.Statement .rstf := by intro _; decide

theorem RowCovers.setmode (m : BitVec 2) : RowCovers.Statement (.setmode m) := by
  unfold RowCovers.Statement; revert m; decide

theorem RowCovers.rrcheck (b0 b1 b2 : Byte) : RowCovers.Statement (.rrcheck b0 b1 b2) := by
  intro _
  have h : encode (.rrcheck b0 b1 b2) &&& 0xF0000000#32 = 0x50000000#32 := by
    apply BitVec.eq_of_getLsbD_eq
    intro k hk
    interval_cases k <;> simp [encode]
  simpa [OpcodeRow.covers, Instr.row] using h

theorem RowCovers.status : RowCovers.Statement .status := by intro _; decide

theorem RowCovers.reservedMode : RowCovers.Statement .reservedMode := by intro _; decide

theorem RowCovers.reservedOp0 : RowCovers.Statement .reservedOp0 := by intro _; decide

theorem RowCovers.reservedOp7 : RowCovers.Statement .reservedOp7 := by intro _; decide

theorem RowCovers.reservedHigh (op : BitVec 3) : RowCovers.Statement (.reservedHigh op) := by
  unfold RowCovers.Statement; revert op; decide

end Sys2Proof.Laws
end

