-- ==== Sys2Proof/Tests/Slice0.lean ====
section
/-! SUPPORT. Small tests with results taken from the spec (95_test_vectors.md unless another file is named), and, for every
statement with hypotheses, a state and operands that meet them. -/

namespace Sys2Proof.Tests

open Sys2Proof.Machine

/-! ### Helpers -/

/-- The reset state with a mode, FILL and the first cells of BUF. -/
def withFrame (mode : Mode) (bytes : List Byte) : State :=
  { State.reset with
    mode := mode
    fill := BitVec.ofNat 4 bytes.length
    buf := Vector.ofFn fun i => bytes.getD i.val 0#8 }

/-- What a test looks at: FILL, MODE, the responses and the labels. -/
def seen : Host.Outcome State Fault Refusal → Option (BitVec 4 × Mode × List Response × List OutcomeLabel)
  | .next t => some (t.fill, t.mode, t.responses, t.outcomes)
  | .fault _ => none
  | .refused _ => none

/-- The cells of BUF after a command. -/
def cellsAfter : Host.Outcome State Fault Refusal → List Byte
  | .next t => t.buf.toList
  | .fault _ => []
  | .refused _ => []

/-- Does it answer a next state? -/
def isNext : Host.Outcome State Fault Refusal → Bool
  | .next _ => true
  | .fault _ => false
  | .refused _ => false

/-- If it does, there is one. -/
theorem exists_of_isNext {o : Host.Outcome State Fault Refusal} (h : isNext o = true) : ∃ t, o = .next t := by
  cases o with
  | next t => exact ⟨t, rfl⟩
  | fault r => cases h
  | refused r => cases h

/-- The frame of V-D1. -/
def frame1 : List Byte := [0x54, 0x01, 0x2C, 0x5E]

/-- The frame of V-D2. -/
def frame2 : List Byte := [0x54, 0x01, 0x2C, 0x02, 0x58, 0x7F]

/-- The frame of V-D3. -/
def frame4 : List Byte := [0x54, 0x00, 0x64, 0x01, 0x2C, 0x0F, 0xA0, 0xFF, 0xFF, 0x88]

/-! ### WellFormed -/

theorem test_wellFormed_refuses_mode3 : (Instr.setmode 3#2).wellFormed = false := by decide

theorem test_wellFormed_accepts_mode2 : (Instr.setmode 2#2).wellFormed = true := by decide

/-! ### Decoding: words written bit by bit from 30_encoding.md R64 to R66 (P1, P3, P5, V-K13, V-K14) -/

theorem test_decode_feed : decode 0b00010000000000000000000001010100#32 = .feed 0x54#8 := by decide

theorem test_decode_feed_ignored_bits : decode 0b00011111111111111111111101010100#32 = .feed 0x54#8 := by decide

theorem test_decode_decode : decode 0b00100000000000000000000000000000#32 = .decode := by decide

theorem test_decode_rstf : decode 0b00110000000000000000000000000000#32 = .rstf := by decide

theorem test_decode_setmode : decode 0b01000000000000000000000000000010#32 = .setmode 2#2 := by decide

theorem test_decode_reservedMode : decode 0b01000000000000000000000000000011#32 = .reservedMode := by decide

theorem test_decode_rrcheck :
    decode 0b01010000000000010010110011010001#32 = .rrcheck 0x01#8 0x2C#8 0xD1#8 := by decide

theorem test_decode_status_ignored_bits : decode 0b01101010101111001101111011110000#32 = .status := by decide

theorem test_decode_reservedOp0 : decode 0b00000000000000000000000000000001#32 = .reservedOp0 := by decide

theorem test_decode_reservedOp7 : decode 0b01110000000000000000000000000000#32 = .reservedOp7 := by decide

theorem test_decode_reservedHigh : decode 0b10010000000000000000000000000000#32 = .reservedHigh 1#3 := by decide

theorem test_decodeTableWord : decodeTableWord 32 0x50FFFF24 = some (.rrcheck 0xFF#8 0xFF#8 0x24#8) := by decide

theorem test_decodeTableWord_longer_than_a_word : decodeTableWord 40 0x50FFFF24 = none := by decide

/-! ### The CRC (2.1) -/

theorem test_crc_V_C11 : crc8 defaultRom [0x54, 0x01, 0x2C, 0x02, 0x58] = 0x7F#8 := by decide

/-- The reflected example of 40_crc8.md R86. -/
theorem test_crc_reflected :
    crc8 (crcTable .reflected 0x8C#8) [0x31, 0x32, 0x33, 0x34, 0x35, 0x36, 0x37, 0x38, 0x39] = 0xA1#8 := by
  decide +kernel

theorem test_crc8Len_beyond : crc8Len defaultRom [0x54] 2 = none := by decide

/-- The codes of 60_exceptions.md R171. -/
theorem test_labelCodes :
    [OutcomeLabel.ok, .checksumMismatch, .frameLengthMismatch, .bufferOverrun, .frameStart, .appended, .discarded,
      .frameReset, .modeSet, .statusRead, .refused].map labelCode = List.range 11 := by decide

/-! ### FEED (2.2) -/

/-- V-F5: the marker inside a frame is data. -/
theorem test_feed_V_F5 :
    seen (exec (.feed 0x54) (withFrame .ch1 [0x54])) = some (2, .ch1, [], [.appended]) ∧
    (cellsAfter (exec (.feed 0x54) (withFrame .ch1 [0x54]))).take 3 = [0x54, 0x54, 0x00] := by decide

/-- V-F11, V-F13: RESTART. -/
theorem test_feed_V_F11 :
    seen (exec (.feed 0x54) { withFrame .ch1 frame4 with params := ⟨.restart, .abab⟩ }) =
      some (0, .ch1, [], [.bufferOverrun]) := by decide

/-! ### DECODE (2.3) -/

theorem test_decode_V_D3 :
    seen (exec .decode (withFrame .ch4 frame4)) =
      some (0, .ch4, [.sample 4#3 0xFFFF0FA0012C0064#64], [.ok]) := by decide

theorem test_decode_V_D6 :
    seen (exec .decode { withFrame .ch4 frame2 with params := ⟨.hold, .aabb⟩ }) =
      some (0, .ch4, [.sample 4#3 0x02580258012C012C#64], [.ok]) := by decide

theorem test_decode_V_D15 :
    seen (exec .decode (withFrame .ch2 frame1)) = some (0, .ch2, [.sample 2#3 0#64], [.frameLengthMismatch]) := by decide

/-! ### RRCHECK (2.4) -/

theorem test_rrcheck_V_R1 :
    seen (exec (.rrcheck 0x01 0x2C 0xD1) (withFrame .ch1 [0x54, 0x01])) =
      some (2, .ch1, [.distance 0x012C#16], [.ok]) := by decide

theorem test_rrcheck_V_R6 :
    seen (exec (.rrcheck 0x54 0x01 0x2C) (withFrame .ch1 [])) =
      some (0, .ch1, [.distance 0#16], [.checksumMismatch]) := by decide

/-! ### Control (2.5) -/

theorem test_setmode_V_K1 :
    seen (exec (.setmode 2) (withFrame .ch1 [0x54, 0, 0])) = some (0, .ch4, [], [.modeSet]) := by decide

theorem test_setmode_V_K2 :
    seen (exec (.setmode 1) (withFrame .ch2 [0x54, 0, 0])) = some (0, .ch2, [], [.modeSet]) := by decide

theorem test_rstf_V_K4 :
    seen (exec .rstf (withFrame .ch1 [0x54, 0, 0, 0, 0, 0, 0])) = some (0, .ch1, [], [.frameReset]) := by decide

theorem test_status_V_K7 :
    seen (exec .status (withFrame .ch4 frame1)) = some (4, .ch4, [.status 0x24#8], [.statusRead]) := by decide

theorem test_status_V_K8 :
    seen (exec .status (withFrame .ch4 frame4)) = some (10, .ch4, [.status 0x6A#8], [.statusRead]) := by decide

theorem test_reservedMode_V_K3 :
    seen (exec .reservedMode (withFrame .ch2 [0x54, 0, 0])) = some (3, .ch2, [], [.refused]) := by decide

theorem test_reservedOp0_V_K11 :
    seen (exec .reservedOp0 (withFrame .ch1 [0x54, 0])) = some (2, .ch1, [], [.refused]) := by decide

theorem test_reservedOp7_P5 : seen (exec .reservedOp7 (withFrame .ch1 [])) = some (0, .ch1, [], [.refused]) := by decide

theorem test_reservedHigh_V_K12 :
    seen (exec (.reservedHigh 7) (withFrame .ch1 [0x54, 0])) = some (2, .ch1, [], [.refused]) := by decide

/-! ### Steps -/

theorem test_step_runs_fetched_word :
    seen (step (State.reset.withFetchWord 32 0x40000002)) = some (0, .ch4, [], [.modeSet]) := by decide

theorem test_step_idle : seen (step State.reset) = some (0, .ch1, [], []) := by decide

theorem test_step_reset_before_command :
    seen (step { withFrame .ch4 frame4 with port := [0x60000000#32], resetLine := true }) =
      some (0, .ch1, [], []) := by decide

/-! ### The assembler (30_encoding.md R75, R76, programs P3 and P5) -/

theorem test_parseLine_rrcheck :
    parseLine "RRCHECK 0x01, 0x2C, 0xD1" = some [.command (.rrcheck 0x01 0x2C 0xD1)] := by decide

theorem test_parseLine_comment : parseLine "  ; nothing but a comment" = some [] := by decide

theorem test_assemble_frame1 :
    assemble defaultRom ["FRAME1 300"] =
      some [0x10000054#32, 0x10000001#32, 0x1000002C#32, 0x1000005E#32] := by decide

theorem test_parseLine_refuses_wide_byte : parseLine "FEED 256" = none := by decide

/-! ### Witnesses: each statement's hypotheses are met -/

theorem witness_DecodeEncodeRoundTrip : (Instr.rrcheck 0xFF 0x00 0x54).wellFormed = true := by decide

theorem witness_IgnoredBitsHaveNoEffect :
    0x10000054#32 &&& (decode 0x10000054#32).usedBits = 0x1FFFFF54#32 &&& (decode 0x10000054#32).usedBits := by decide

theorem witness_EveryWordHasExactlyOneRow : (Instr.setmode 0#2).row.covers 0x4FFFFFFE#32 = true := by decide

theorem witness_StepRunsDecodedCommand :
    (State.reset.withFetchWord 32 0x20000000).resetLine = false ∧
    (State.reset.withFetchWord 32 0x20000000).port = 0x20000000#32 :: [] := by decide

theorem witness_IssuedWordRunsNextAndIdleWaits :
    State.reset.resetLine = false ∧ State.reset.port = [] := by decide

theorem witness_ResetIsTakenBeforePendingCommands :
    ({ State.reset with resetLine := true, port := [0x60000000#32] } : State).resetLine = true := by decide

theorem witness_FirstCommandsAfterReset : State.reset = State.resetWith defaultRom defaultParams := rfl

theorem witness_RunIsFoldOfCommands :
    ({ State.reset with port := [0x10000054#32, 0x60000000#32] } : State).resetLine = false ∧
    ({ State.reset with port := [0x10000054#32, 0x60000000#32] } : State).port =
      [0x10000054#32] ++ [0x60000000#32] := by decide

theorem witness_StepKeepsLegal :
    Legal ((withFrame .ch4 frame4).withFetchWord 32 0x10000000) ∧
    ∃ t, step ((withFrame .ch4 frame4).withFetchWord 32 0x10000000) = .next t :=
  ⟨by decide, exists_of_isNext (by decide)⟩

theorem witness_EveryCommandCompletes : (withFrame .ch1 frame4).fill.toNat ≤ cap := by decide

theorem witness_LegalRunsNeverStop : Legal (withFrame .ch1 [0x54]) := by decide

theorem witness_IllegalFillFaults :
    cap < ({ State.reset with fill := 11#4 } : State).fill.toNat ∧
    cap < ({ State.reset with fill := 15#4 } : State).fill.toNat := by decide

theorem witness_NoStepWritesRomOrParams : ∃ t, step (State.reset.withFetchWord 32 0x10000054) = .next t :=
  exists_of_isNext (by decide)

theorem witness_OnlySetmodeChangesMode :
    ∃ t, exec (.setmode 2) State.reset = .next t ∧ t.mode ≠ State.reset.mode := ⟨_, rfl, by decide⟩

theorem witness_OnlyFeedWritesCellFill :
    ∃ t, exec (.feed 0x12) (withFrame .ch1 (frame4.take 9)) = .next t ∧
      t.buf[9] ≠ (withFrame .ch1 (frame4.take 9)).buf[9] := ⟨_, rfl, by decide⟩

/-- FILL stays (V-F2), is cleared from 10 (V-F11), rises from 9 to 10 (V-F8). -/
theorem witness_FillChangesOnlyByOneOrToZero :
    (∃ t, exec (.feed 0x00) State.reset = .next t) ∧
    (∃ t, exec .rstf (withFrame .ch1 frame4) = .next t) ∧
    (∃ t, exec (.feed 0x12) (withFrame .ch1 (frame4.take 9)) = .next t) :=
  ⟨⟨_, rfl⟩, ⟨_, rfl⟩, ⟨_, rfl⟩⟩

theorem witness_OneLabelPerCommand :
    (∃ t, exec (.setmode 0) State.reset = .next t) ∧ (∃ t, exec (.setmode 3) State.reset = .next t) :=
  ⟨⟨_, rfl⟩, ⟨_, rfl⟩⟩

theorem witness_ResponsesOfEachCommand :
    (∃ t, exec .decode State.reset = .next t) ∧ (∃ t, exec (.feed 0) State.reset = .next t) ∧
    (∃ t, exec (.rrcheck 0 0 0) State.reset = .next t) ∧ (∃ t, exec .status State.reset = .next t) :=
  ⟨⟨_, rfl⟩, ⟨_, rfl⟩, exists_of_isNext (by decide), ⟨_, rfl⟩⟩

/-- Two states whose cells 1 to 9 differ, with FILL = 1. -/
theorem witness_StaleCellsAreInvisible :
    SameButStaleCells (withFrame .ch1 [0x54])
      { withFrame .ch1 [0x54] with buf := #v[0x54, 0xFF, 0xFF, 0xFF, 0xFF, 0xFF, 0xFF, 0xFF, 0xFF, 0xFF] } ∧
    ∃ t, exec (.feed 0x01) (withFrame .ch1 [0x54]) = .next t :=
  ⟨⟨by decide, rfl⟩, ⟨_, rfl⟩⟩

theorem witness_FeedInHunt : (withFrame .ch2 []).fill = 0#4 := by decide

theorem witness_FeedInsideFrame :
    (0 < (withFrame .ch1 [0x54]).fill.toNat ∧ (withFrame .ch1 [0x54]).fill.toNat < 10) ∧
    (0 < (withFrame .ch1 (frame4.take 9)).fill.toNat ∧ (withFrame .ch1 (frame4.take 9)).fill.toNat < 10) := by decide

theorem witness_FeedIntoFullBuffer :
    (withFrame .ch1 frame4).fill = 10#4 ∧
    ({ withFrame .ch4 frame4 with params := ⟨.restart, .abab⟩ } : State).fill = 10#4 := by decide

/-- Every phase at the ends of its range, and a command of the second part. -/
theorem witness_PhaseTransitions :
    (phase (withFrame .ch1 []) = .hunt ∧ phase (withFrame .ch1 [0x54]) = .filling ∧
      phase (withFrame .ch4 (frame4.take 9)) = .filling ∧ phase (withFrame .ch1 frame1) = .complete ∧
      phase (withFrame .ch4 frame4) = .complete ∧ phase (withFrame .ch1 (frame4.take 5)) = .overfill ∧
      phase (withFrame .ch2 (frame4.take 9)) = .overfill ∧ phase (withFrame .ch1 frame4) = .full ∧
      (withFrame .ch1 frame4).fill.toNat ≤ cap) ∧
    ∃ t, exec .decode (withFrame .ch1 frame1) = .next t := ⟨by decide, exists_of_isNext (by decide)⟩

/-- In 1-channel mode FILL = 3 and 5, in 2-channel mode 5 and 7, in 4-channel mode 0 and 9 are not accepted. -/
theorem witness_DecodeLengthMismatch :
    ((withFrame .ch1 (frame4.take 3)).fill ≠ 4#4 ∧ (withFrame .ch1 (frame4.take 5)).fill ≠ 4#4) ∧
    ((withFrame .ch2 (frame4.take 5)).fill ≠ 6#4 ∧ (withFrame .ch2 (frame4.take 7)).fill ≠ 6#4) ∧
    ((withFrame .ch4 []).fill ≠ 4#4 ∧ (withFrame .ch4 []).fill ≠ 6#4 ∧ (withFrame .ch4 []).fill ≠ 10#4) ∧
    ((withFrame .ch4 (frame4.take 9)).fill ≠ 4#4 ∧ (withFrame .ch4 (frame4.take 9)).fill ≠ 6#4 ∧
      (withFrame .ch4 (frame4.take 9)).fill ≠ 10#4 ∧ (withFrame .ch4 (frame4.take 9)).fill.toNat ≤ cap) := by decide

/-- V-D7. -/
theorem witness_DecodeChecksumMismatch :
    (withFrame .ch1 [0x54, 0x01, 0x2C, 0x5F]).fill.toNat - 1 < 10 ∧
    (withFrame .ch1 [0x54, 0x01, 0x2C, 0x5F]).fill.toNat ∈ accept (withFrame .ch1 [0x54, 0x01, 0x2C, 0x5F]).mode ∧
    crc8 defaultRom ((withFrame .ch1 [0x54, 0x01, 0x2C, 0x5F]).buf.toList.take 3) ≠
      (withFrame .ch1 [0x54, 0x01, 0x2C, 0x5F]).buf[3] := by decide

/-- V-D3, and for the lenient clauses V-D4 and V-D5. -/
theorem witness_DecodeGoodFrame :
    ((withFrame .ch4 frame4).fill.toNat ∈ accept .ch4 ∧ (withFrame .ch4 frame4).fill.toNat = frameLen .ch4 ∧
      crc8 defaultRom ((withFrame .ch4 frame4).buf.toList.take 9) = (withFrame .ch4 frame4).buf[9]) ∧
    ((withFrame .ch4 frame1).fill.toNat ∈ accept .ch4 ∧ (withFrame .ch4 frame1).fill = 4#4 ∧
      crc8 defaultRom ((withFrame .ch4 frame1).buf.toList.take 3) = (withFrame .ch4 frame1).buf[3]) ∧
    ((withFrame .ch4 frame2).fill.toNat ∈ accept .ch4 ∧ (withFrame .ch4 frame2).fill = 6#4 ∧
      crc8 defaultRom ((withFrame .ch4 frame2).buf.toList.take 5) = (withFrame .ch4 frame2).buf[5]) := by decide

theorem witness_DecodeAlwaysClearsTheFrame : (withFrame .ch1 frame1).fill.toNat ≤ cap := by decide

theorem witness_SecondDecodeAnswersSentinel : (withFrame .ch4 frame4).fill.toNat ≤ cap := by decide

theorem witness_DecodeRejectsSingleBitFlip :
    (withFrame .ch4 frame4).rom = defaultRom ∧
    (withFrame .ch4 frame4).fill.toNat ∈ accept (withFrame .ch4 frame4).mode ∧
    crcOk (withFrame .ch4 frame4).rom (frame (withFrame .ch4 frame4)) = true ∧
    9 < (withFrame .ch4 frame4).fill.toNat ∧ 7 < 8 := ⟨rfl, by decide⟩

theorem witness_RrcheckAcceptsItsFrame : rrFrame State.reset.rom 0x012C#16 = [0x01#8, 0x2C#8, 0xD1#8] := by decide

theorem witness_SetmodeResult :
    (0#2, Mode.ch1) ∈ [(0#2, Mode.ch1), (1#2, Mode.ch2), (2#2, Mode.ch4)] ∧
    (2#2, Mode.ch4) ∈ [(0#2, Mode.ch1), (1#2, Mode.ch2), (2#2, Mode.ch4)] := by decide

theorem witness_StatusResult : (withFrame .ch4 frame4).fill.toNat ≤ cap := by decide

theorem witness_AllowedTablesAreLinear :
    IsCrcTable (crcTable .reflected 0x8C#8) ∧ [0x54#8, 0x01#8].length = [0xFF#8, 0x00#8].length :=
  ⟨⟨.reflected, 0x8C#8, by decide, rfl⟩, rfl⟩

/-- The frame of two zero bytes passes under every allowed table; bit 7 of its first byte is flipped. -/
theorem witness_SingleBitFlipIsDetected :
    0 < [0x00#8, 0x00#8].length ∧ IsCrcTable (crcTable .msbFirst 0x80#8) ∧ 7 < 8 ∧
    crcOk (crcTable .msbFirst 0x80#8) [0x00#8, 0x00#8] = true :=
  ⟨by decide, ⟨.msbFirst, 0x80#8, by decide, rfl⟩, by decide, by decide⟩

theorem witness_StreamFrameLayout :
    [0x0064#16, 0x012C#16, 0x0FA0#16, 0xFFFF#16].length = channels .ch4 ∧ [0x012C#16].length = channels .ch1 := by decide

theorem witness_FedBytesAreStoredInOrder : State.reset.fill = 0#4 ∧ (frame4.drop 1).length ≤ 9 := by decide

theorem witness_IntactFrameIsDecoded :
    State.reset.fill = 0#4 ∧ [0x012C#16].length = channels State.reset.mode := by decide

theorem witness_ShorterFramesInFourChannelMode :
    (withFrame .ch4 []).fill = 0#4 ∧ (withFrame .ch4 []).mode = .ch4 := by decide

/-- The garbage of program P2. -/
theorem witness_MarkerFreeGarbageIsDiscarded :
    State.reset.fill = 0#4 ∧ ∀ b ∈ [0x00#8, 0xFF#8, 0x2C#8], b ≠ 0x54#8 := by decide

/-- FEED below completion, DECODE at it, SETMODE and RSTF between frames, the rest anywhere. -/
theorem witness_DisciplinedCommandsStayWithinFrames :
    ((withFrame .ch1 (frame1.take 3)).fill.toNat ≤ frameLen (withFrame .ch1 (frame1.take 3)).mode ∧
      disciplined (.feed 0x5E) (withFrame .ch1 (frame1.take 3)) = true) ∧
    ((withFrame .ch1 frame1).fill.toNat ≤ frameLen (withFrame .ch1 frame1).mode ∧
      disciplined .decode (withFrame .ch1 frame1) = true) ∧
    (disciplined (.setmode 2) (withFrame .ch1 []) = true ∧ disciplined .rstf (withFrame .ch1 []) = true ∧
      disciplined .status (withFrame .ch1 frame1) = true) := by decide

theorem witness_EveryInterleavingRunsWhole :
    Legal ({ State.reset with port := [0x10000054#32, 0x60000000#32] } : State) ∧
    ({ State.reset with port := [0x10000054#32, 0x60000000#32] } : State).resetLine = false ∧
    Interleaves [0x10000054#32] [0x60000000#32] [0x10000054#32, 0x60000000#32] :=
  ⟨by decide, by decide, .left _ (.right _ .nil)⟩

theorem witness_InstancesShareOnlyRom :
    (∃ q, platformStep 0 (platformReset 2 defaultRom defaultParams) = .next q) ∧
    SharesRom defaultRom (platformReset 2 defaultRom defaultParams) ∧ 1 ≠ 0 :=
  ⟨⟨_, rfl⟩, fun _ hs => by simp [platformReset] at hs; rw [hs]; rfl, by decide⟩

theorem witness_StepsOfDifferentInstancesCommute :
    0 ≠ 1 ∧ ∃ q, platformRun [0, 1] (platformReset 2 defaultRom defaultParams) = .next q := ⟨by decide, ⟨_, rfl⟩⟩

/-- R75's own examples of operands (`0x2C`, `44`, `'T'`), and every clause's operands at the ends of their range. -/
theorem witness_AssemblerWords :
    "0x2C".toList ∈ byteSpellings 0x2C#8 ∧ "0x01".toList ∈ byteSpellings 1#8 ∧ "44".toList ∈ byteSpellings 0x2C#8 ∧ "'T'".toList ∈ byteSpellings 0x54#8 ∧
    "0".toList ∈ byteSpellings 0#8 ∧ "0xFF".toList ∈ byteSpellings 255#8 ∧ "0xff".toList ∈ byteSpellings 255#8 ∧ "';'".toList ∈ byteSpellings 0x3B#8 ∧
    "1ch".toList ∈ modeSpellings 0#2 ∧ "2".toList ∈ modeSpellings 2#2 ∧ 2#2 ≠ 3#2 ∧
    "; the marker".toList.head? = some ';' := by decide

theorem test_parseLine_no_blank_before_quote : parseLine "FEED'T'" = some [.command (.feed 0x54#8)] := by decide

theorem test_parseLine_distance_quoted : parseLine "FRAME1 'T'" = some [.frame1 0x0054#16] := by decide

end Sys2Proof.Tests
end

