-- ==== Sys2Proof/Proofs/Scope.lean ====
section
/-! PROOFS. The statements of 00_scope.md: what a step does when no reset is raised, with a word pending and without. -/

namespace Sys2Proof.Proofs
open Sys2Proof.Machine

/-! ### What a step does, by the state of the port -/

/-- R4, R48: the oldest pending word leaves the port and its command is executed whole. -/
theorem step_of_port_cons {s : State} {w : Word} {ws : List Word} (hreset : s.resetLine = false)
    (hport : s.port = w :: ws) : step s = exec (decode w) { s with port := ws } := by
  simp [step, hreset, takeCommand_cons hport]

/-- Log 9: the block waits. -/
theorem step_of_port_nil {s : State} (hreset : s.resetLine = false) (hport : s.port = []) :
    step s = .next s := by
  simp [step, hreset, takeCommand_nil hport]

/-! ### What issuing a word writes -/

@[simp] theorem withFetchWord_port (s : State) (nbits w : Nat) :
    (s.withFetchWord nbits w).port = tableWord nbits w :: s.port := rfl

@[simp] theorem withFetchWord_resetLine (s : State) (nbits w : Nat) :
    (s.withFetchWord nbits w).resetLine = false := rfl

/-- Once the issued word has left the port, only the reset input differs from the state before the issue. -/
theorem withFetchWord_port_taken (s : State) (nbits w : Nat) :
    { s.withFetchWord nbits w with port := s.port } = { s with resetLine := false } := rfl

/-- Log 1: the issued word stands ahead of any pending one, so it is the one that runs. -/
theorem step_withFetchWord (s : State) (nbits w : Nat) :
    step (s.withFetchWord nbits w) = exec (decode (tableWord nbits w)) { s with resetLine := false } := by
  rw [step_of_port_cons (withFetchWord_resetLine s nbits w) (withFetchWord_port s nbits w),
    withFetchWord_port_taken]

/-! ### The obligations -/

/-- Settles O7. -/
theorem stepRunsDecodedCommand : Obligations.StepRunsDecodedCommand :=
  fun _ _ _ => step_of_port_cons

/-- Settles O8: the issued word is the oldest pending one; with an empty port there is none to run. -/
theorem issuedWordRunsNextAndIdleWaits : Obligations.IssuedWordRunsNextAndIdleWaits :=
  ⟨step_withFetchWord, fun _ => step_of_port_nil⟩

end Sys2Proof.Proofs
end

/-! PROOFS. The statements of 10_state.md: the values after reset, the invariants of FILL and the marker, which field a
command can write, the invisibility of stale cells, and the storing of fed bytes. -/

namespace Sys2Proof.Machine

/-! ### Where a command that reads FILL stops -/

/-- I14: an illegal FILL faults. -/
theorem withLegalFill_of_gt {s t : State} (h : cap < s.fill.toNat) :
    withLegalFill s t = .fault (.fillOutOfRange s.fill) := by
  simp [withLegalFill, Nat.not_le.mpr h]

/-! ### Storing one byte: what FEED does wherever it keeps its byte (R102, R103) -/

/-- `b` is written to `BUF[FILL]` and FILL is incremented. -/
def storeByte (b : Byte) (s : State) : State := setFill (writeCell s s.fill.toNat b) (s.fill + 1#4)

theorem storeByte_fill_toNat {b : Byte} {s : State} (h : s.fill.toNat < cap) :
    (storeByte b s).fill.toNat = s.fill.toNat + 1 := fill_add_one_toNat h

/-- The byte becomes the last one of the frame. -/
theorem frame_storeByte {b : Byte} {s : State} (h : s.fill.toNat < cap) :
    frame (storeByte b s) = frame s ++ [b] := by
  have hcell : s.fill.toNat < s.buf.toList.length := by simpa [cap] using h
  have hcells : (storeByte b s).buf.toList = s.buf.toList.set s.fill.toNat b := by simp [storeByte]
  rw [frame, hcells, storeByte_fill_toNat h, List.take_add_one, List.take_set_of_le (Nat.le_refl _),
    List.getElem?_set_self hcell]
  rfl

theorem storeByte_getElem_ne {b : Byte} {s : State} {j : Nat} (hj : j < 10) (h : s.fill.toNat ≠ j) :
    (storeByte b s).buf[j] = s.buf[j] := writeCell_getElem_ne b hj h

/-! ### FEED by the three cases of R101 -/

theorem feedByte_marker {s : State} (h0 : s.fill = 0#4) :
    feedByte marker s = observe (storeByte marker s) .frameStart := by
  simp [feedByte, feedHunt, storeByte, h0]

theorem feedByte_discard {b : Byte} {s : State} (h0 : s.fill = 0#4) (hb : b ≠ marker) :
    feedByte b s = observe s .discarded := by
  simp [feedByte, feedHunt, h0, hb]

theorem feedByte_append {b : Byte} {s : State} (h0 : s.fill ≠ 0#4) (h1 : s.fill.toNat < cap) :
    feedByte b s = observe (storeByte b s) .appended := by
  simp [feedByte, feedAppend, storeByte, h0, h1]

theorem feedByte_full {b : Byte} {s : State} (h0 : s.fill ≠ 0#4) (h1 : ¬ s.fill.toNat < cap) :
    feedByte b s = feedOverrun s := by
  simp [feedByte, h0, h1]

theorem exec_feed_of_le {b : Byte} {s : State} (h : s.fill.toNat ≤ cap) :
    exec (.feed b) s = .next (feedByte b s) := withLegalFill_of_le h

/-- Out of HUNT only the marker makes FILL leave 0 (R102). -/
theorem eq_marker_of_feed_hunt {c : Byte} {s t : State} (h : exec (.feed c) s = .next t) (h0 : s.fill = 0#4)
    (ht : t.fill ≠ 0#4) : c = marker := by
  by_contra hc
  rw [exec_feed_of_le (by simp [h0]), feedByte_discard h0 hc] at h
  cases h
  exact ht h0

/-! ### What a command can write, one field at a time -/

/-- The frame of the constants (R7, R24). -/
theorem exec_rom_params {i : Instr} {s t : State} (h : exec i s = .next t) :
    t.rom = s.rom ∧ t.params = s.params := by
  obtain ⟨f, m, b, r, o, rfl, -⟩ := exec_cases h
  exact ⟨rfl, rfl⟩

theorem exec_mode_cases {i : Instr} {s t : State} (h : exec i s = .next t) :
    t.mode = s.mode ∨ ∃ c, i = .setmode c ∧ modeCode t.mode = c := by
  obtain ⟨f, m, b, r, o, rfl, hmode, -⟩ := exec_cases h
  exact hmode

/-- FILL and BUF together: both are left, FILL is cleared, or FEED stores its byte in the cell FILL. -/
theorem exec_fill_buf_cases {i : Instr} {s t : State} (h : exec i s = .next t) :
    (t.fill = s.fill ∧ t.buf = s.buf) ∨ (t.fill = 0#4 ∧ t.buf = s.buf) ∨
      ∃ c, i = .feed c ∧ s.fill.toNat < cap ∧ t.fill.toNat = s.fill.toNat + 1 ∧
        t.buf = s.buf.setIfInBounds s.fill.toNat c := by
  obtain ⟨f, m, b, r, o, rfl, -, -, hfill⟩ := exec_cases h
  exact hfill

/-- What a step can answer: the reset state, the same state, or the answer of a command. -/
theorem step_next_cases {s t : State} (h : step s = .next t) :
    t = takeReset s ∨ t = s ∨ ∃ i ws, exec i { s with port := ws } = .next t := by
  obtain ⟨-, hs⟩ | ⟨-, -, hs⟩ | ⟨w, ws, -, -, hs⟩ := step_cases s <;> rw [hs] at h
  · cases h
    exact .inl rfl
  · cases h
    exact .inr (.inl rfl)
  · exact .inr (.inr ⟨decode w, ws, h⟩)

/-! ### Legal states (R22, R25) -/

/-- Between frames the rule on the marker asks nothing. -/
theorem legal_of_fill_zero {s : State} (h : s.fill = 0#4) : Legal s := by
  simp [Legal, h]

/-- Legality reads FILL and BUF alone. -/
theorem legal_congr {s t : State} (hs : Legal s) (hfill : t.fill = s.fill) (hbuf : t.buf = s.buf) : Legal t := by
  simpa [Legal, hfill, hbuf] using hs

/-- A command keeps the invariant. A byte that FEED stores goes to cell 0 only from HUNT, where it is the marker. -/
theorem exec_keeps_legal {i : Instr} {s t : State} (hs : Legal s) (h : exec i s = .next t) : Legal t := by
  obtain ⟨hfill, hbuf⟩ | ⟨hfill, -⟩ | ⟨c, rfl, hlt, hfill, hbuf⟩ := exec_fill_buf_cases h
  · exact legal_congr hs hfill hbuf
  · exact legal_of_fill_zero hfill
  · obtain ⟨-, hmarker⟩ := hs
    refine ⟨by omega, fun ht => ?_⟩
    by_cases h0 : s.fill = 0#4
    · simp [hbuf, h0, eq_marker_of_feed_hunt h h0 ht]
    · have hne : s.fill.toNat ≠ 0 := fun hz => h0 (BitVec.eq_of_toNat_eq hz)
      simp [hbuf, hne, hmarker h0]

/-! ### States that differ in stale cells only (R26)

Each operation of the model maps such a pair to such a pair, so a command does. -/

namespace SameButStaleCells

variable {s t : State}

theorem exists_buf (h : SameButStaleCells s t) : ∃ b, t = { s with buf := b } := ⟨t.buf, h.2.symm⟩

theorem fill_eq (h : SameButStaleCells s t) : t.fill = s.fill := by
  obtain ⟨b, rfl⟩ := h.exists_buf
  rfl

theorem mode_eq (h : SameButStaleCells s t) : t.mode = s.mode := by
  obtain ⟨b, rfl⟩ := h.exists_buf
  rfl

theorem rom_eq (h : SameButStaleCells s t) : t.rom = s.rom := by
  obtain ⟨b, rfl⟩ := h.exists_buf
  rfl

theorem params_eq (h : SameButStaleCells s t) : t.params = s.params := by
  obtain ⟨b, rfl⟩ := h.exists_buf
  rfl

theorem statusByte_eq (h : SameButStaleCells s t) : statusByte t = statusByte s := by
  obtain ⟨b, rfl⟩ := h.exists_buf
  rfl

/-- DECODE reads BUF through the frame alone. -/
theorem decodeAttempt_eq (h : SameButStaleCells s t) : decodeAttempt t = decodeAttempt s := by
  simp only [decodeAttempt, h.fill_eq, h.mode_eq, h.rom_eq, h.params_eq, h.1]

theorem observe_congr (h : SameButStaleCells s t) (o : OutcomeLabel) :
    SameButStaleCells (observe s o) (observe t o) := by
  obtain ⟨b, rfl⟩ := h.exists_buf
  exact ⟨h.1, rfl⟩

theorem respond_congr (h : SameButStaleCells s t) (r : Response) :
    SameButStaleCells (respond s r) (respond t r) := by
  obtain ⟨b, rfl⟩ := h.exists_buf
  exact ⟨h.1, rfl⟩

theorem setMode_congr (h : SameButStaleCells s t) (m : Mode) :
    SameButStaleCells (setMode s m) (setMode t m) := by
  obtain ⟨b, rfl⟩ := h.exists_buf
  exact ⟨h.1, rfl⟩

/-- With FILL = 0 every cell is stale. -/
theorem clearFrame_congr (h : SameButStaleCells s t) : SameButStaleCells (clearFrame s) (clearFrame t) := by
  obtain ⟨b, rfl⟩ := h.exists_buf
  exact ⟨by simp only [frame_clearFrame], rfl⟩

/-- The one cell that ceases to be stale is the one just written. -/
theorem storeByte_congr (h : SameButStaleCells s t) (c : Byte) (hlt : s.fill.toNat < cap) :
    SameButStaleCells (storeByte c s) (storeByte c t) := by
  have hframe : frame (storeByte c s) = frame (storeByte c t) := by
    rw [frame_storeByte hlt, frame_storeByte (h.fill_eq ▸ hlt), h.1]
  obtain ⟨b, rfl⟩ := h.exists_buf
  exact ⟨hframe, rfl⟩

theorem feedOverrun_congr (h : SameButStaleCells s t) : SameButStaleCells (feedOverrun s) (feedOverrun t) := by
  unfold feedOverrun
  rw [h.params_eq]
  cases s.params.overrun with
  | hold => exact h.observe_congr _
  | restart => exact h.clearFrame_congr.observe_congr _

theorem feedByte_congr (h : SameButStaleCells s t) (c : Byte) :
    SameButStaleCells (feedByte c s) (feedByte c t) := by
  have hfill := h.fill_eq
  by_cases h0 : s.fill = 0#4
  · by_cases hc : c = marker
    · subst hc
      rw [feedByte_marker h0, feedByte_marker (hfill.trans h0)]
      exact (h.storeByte_congr _ (by simp [h0, cap])).observe_congr _
    · rw [feedByte_discard h0 hc, feedByte_discard (hfill.trans h0) hc]
      exact h.observe_congr _
  · by_cases h1 : s.fill.toNat < cap
    · rw [feedByte_append h0 h1, feedByte_append (hfill ▸ h0) (hfill ▸ h1)]
      exact (h.storeByte_congr c h1).observe_congr _
    · rw [feedByte_full h0 h1, feedByte_full (hfill ▸ h0) (hfill ▸ h1)]
      exact h.feedOverrun_congr

end SameButStaleCells

/-- Where the first outcome is a next state, so is the second, and the two states differ in stale cells only. -/
def NextSameButStaleCells (o o' : Host.Outcome State Fault Refusal) : Prop :=
  ∀ s', o = .next s' → ∃ t', o' = .next t' ∧ SameButStaleCells s' t'

theorem nextSameButStaleCells_next {s t : State} (h : SameButStaleCells s t) :
    NextSameButStaleCells (.next s) (.next t) := by
  rintro _ ⟨⟩
  exact ⟨t, rfl, h⟩

theorem nextSameButStaleCells_withLegalFill {s t u v : State} (h : SameButStaleCells s t)
    (huv : SameButStaleCells u v) : NextSameButStaleCells (withLegalFill s u) (withLegalFill t v) := by
  intro s' hs'
  obtain ⟨hle, rfl⟩ := withLegalFill_next hs'
  exact ⟨v, withLegalFill_of_le (h.fill_eq ▸ hle), huv⟩

theorem nextSameButStaleCells_execDecode {s t : State} (h : SameButStaleCells s t) :
    NextSameButStaleCells (execDecode s) (execDecode t) := by
  unfold execDecode
  rw [h.decodeAttempt_eq, h.mode_eq]
  exact nextSameButStaleCells_withLegalFill h ((h.clearFrame_congr.respond_congr _).observe_congr _)

theorem nextSameButStaleCells_execStatus {s t : State} (h : SameButStaleCells s t) :
    NextSameButStaleCells (execStatus s) (execStatus t) := by
  unfold execStatus
  rw [h.statusByte_eq]
  exact nextSameButStaleCells_withLegalFill h ((h.respond_congr _).observe_congr _)

theorem nextSameButStaleCells_execSetmode {s t : State} (h : SameButStaleCells s t) (m : BitVec 2) :
    NextSameButStaleCells (execSetmode m s) (execSetmode m t) := by
  unfold execSetmode
  cases modeOfCode m with
  | none => exact nextSameButStaleCells_next (h.observe_congr _)
  | some mode => exact nextSameButStaleCells_next ((h.setMode_congr mode).clearFrame_congr.observe_congr _)

theorem nextSameButStaleCells_execRrcheck {s t : State} (h : SameButStaleCells s t) (b0 b1 b2 : Byte) :
    NextSameButStaleCells (execRrcheck b0 b1 b2 s) (execRrcheck b0 b1 b2 t) := by
  unfold execRrcheck
  rw [h.rom_eq]
  split <;> exact nextSameButStaleCells_next ((h.respond_congr _).observe_congr _)

theorem nextSameButStaleCells_exec {s t : State} (h : SameButStaleCells s t) (i : Instr) :
    NextSameButStaleCells (exec i s) (exec i t) := by
  cases i with
  | feed b => exact nextSameButStaleCells_withLegalFill h (h.feedByte_congr b)
  | decode => exact nextSameButStaleCells_execDecode h
  | rstf => exact nextSameButStaleCells_next (h.clearFrame_congr.observe_congr _)
  | setmode m => exact nextSameButStaleCells_execSetmode h m
  | rrcheck b0 b1 b2 => exact nextSameButStaleCells_execRrcheck h b0 b1 b2
  | status => exact nextSameButStaleCells_execStatus h
  | reservedMode | reservedOp0 | reservedOp7 | reservedHigh op =>
    exact nextSameButStaleCells_next (h.observe_congr .refused)

/-! ### Storing a list of bytes (R21, R40) -/

theorem execAll_cons_of_next {i : Instr} {is : List Instr} {s t : State} (h : exec i s = .next t) :
    execAll (i :: is) s = execAll is t := by
  simp [execAll, h]

/-- From `s` to `t` the bytes `bs` were stored in order behind the frame and the labels `os` were recorded; nothing else
changed. -/
structure StoresBytes (s : State) (bs : List Byte) (os : List OutcomeLabel) (t : State) : Prop where
  fill_toNat : t.fill.toNat = s.fill.toNat + bs.length
  frame_eq : frame t = frame s ++ bs
  cells : ∀ (j : Nat) (hj : j < 10), s.fill.toNat + bs.length ≤ j → t.buf[j] = s.buf[j]
  outcomes_eq : t.outcomes = s.outcomes ++ os
  others : { t with fill := s.fill, buf := s.buf, outcomes := s.outcomes } = s

namespace StoresBytes

theorem refl (s : State) : StoresBytes s [] [] s where
  fill_toNat := rfl
  frame_eq := by simp
  cells _ _ _ := rfl
  outcomes_eq := by simp
  others := rfl

theorem trans {s t u : State} {bs cs : List Byte} {os ps : List OutcomeLabel} (h : StoresBytes s bs os t)
    (k : StoresBytes t cs ps u) : StoresBytes s (bs ++ cs) (os ++ ps) u where
  fill_toNat := by rw [k.fill_toNat, h.fill_toNat, List.length_append, Nat.add_assoc]
  frame_eq := by rw [k.frame_eq, h.frame_eq, List.append_assoc]
  cells j hj hle := by
    have hfill := h.fill_toNat
    rw [List.length_append] at hle
    exact (k.cells j hj (by omega)).trans (h.cells j hj (by omega))
  outcomes_eq := by rw [k.outcomes_eq, h.outcomes_eq, List.append_assoc]
  others := by
    have hu : { u with fill := s.fill, buf := s.buf, outcomes := s.outcomes } =
        { t with fill := s.fill, buf := s.buf, outcomes := s.outcomes } :=
      congrArg (fun v : State => { v with fill := s.fill, buf := s.buf, outcomes := s.outcomes }) k.others
    exact hu.trans h.others

theorem of_storeByte (b : Byte) {s : State} (o : OutcomeLabel) (h : s.fill.toNat < cap) :
    StoresBytes s [b] [o] (observe (storeByte b s) o) where
  fill_toNat := storeByte_fill_toNat (b := b) h
  frame_eq := frame_storeByte h
  cells j hj hle := storeByte_getElem_ne hj (by simp at hle; omega)
  outcomes_eq := rfl
  others := rfl

end StoresBytes

/-- The marker fed in HUNT is stored. -/
theorem exec_feed_marker {s : State} (h0 : s.fill = 0#4) :
    ∃ t, exec (.feed marker) s = .next t ∧ StoresBytes s [marker] [.frameStart] t :=
  ⟨_, by rw [exec_feed_of_le (by simp [h0]), feedByte_marker h0], .of_storeByte marker _ (by simp [h0, cap])⟩

/-- Any byte fed inside a frame that is not full is stored. -/
theorem exec_feed_inside {b : Byte} {s : State} (h0 : 0 < s.fill.toNat) (h1 : s.fill.toNat < cap) :
    ∃ t, exec (.feed b) s = .next t ∧ StoresBytes s [b] [.appended] t := by
  have hne : s.fill ≠ 0#4 := fun hz => by simp [hz] at h0
  exact ⟨_, by rw [exec_feed_of_le h1.le, feedByte_append hne h1], .of_storeByte b _ h1⟩

/-- Bytes for which there is room, fed inside a frame, are all stored. -/
theorem execAll_feed_inside (bs : List Byte) {s : State} (h0 : 0 < s.fill.toNat)
    (hroom : s.fill.toNat + bs.length ≤ cap) :
    ∃ t, execAll (bs.map .feed) s = .next t ∧
      StoresBytes s bs (List.replicate bs.length .appended) t := by
  induction bs generalizing s with
  | nil => exact ⟨s, rfl, .refl s⟩
  | cons b bs ih =>
    rw [List.length_cons] at hroom
    obtain ⟨u, hu, hsu⟩ := exec_feed_inside (b := b) h0 (by omega)
    have hfill : u.fill.toNat = s.fill.toNat + 1 := hsu.fill_toNat
    obtain ⟨t, ht, hut⟩ := ih (s := u) (by omega) (by omega)
    exact ⟨t, (execAll_cons_of_next hu).trans ht, hsu.trans hut⟩

/-- A marker and at most nine bytes, fed in HUNT, are all stored. -/
theorem execAll_feed_hunt {s : State} {bs : List Byte} (h0 : s.fill = 0#4) (hlen : bs.length ≤ 9) :
    ∃ t, execAll ((marker :: bs).map .feed) s = .next t ∧
      StoresBytes s (marker :: bs) (.frameStart :: List.replicate bs.length .appended) t := by
  obtain ⟨u, hu, hsu⟩ := exec_feed_marker h0
  have hfill : u.fill.toNat = 1 := by simpa [h0] using hsu.fill_toNat
  obtain ⟨t, ht, hut⟩ := execAll_feed_inside bs (s := u) (by omega) (by rw [cap_eq]; omega)
  exact ⟨t, (execAll_cons_of_next hu).trans ht, hsu.trans hut⟩

end Sys2Proof.Machine

namespace Sys2Proof.Proofs
open Sys2Proof.Machine

/-! ### The obligations -/

/-- Settles O14: a reset clears FILL, waiting changes nothing, and a command keeps the invariant. -/
theorem stepKeepsLegal : Obligations.StepKeepsLegal := by
  intro s t hs h
  obtain rfl | rfl | ⟨i, ws, hexec⟩ := step_next_cases h
  · exact legal_of_fill_zero (takeReset_fill s)
  · exact hs
  · have hs' : Legal { s with port := ws } := hs
    exact exec_keeps_legal hs' hexec

/-- Settles O18. -/
theorem noStepWritesRomOrParams : Obligations.NoStepWritesRomOrParams := by
  intro s t h
  obtain rfl | rfl | ⟨i, ws, hexec⟩ := step_next_cases h
  · exact ⟨takeReset_rom s, takeReset_params s⟩
  · exact ⟨rfl, rfl⟩
  · obtain ⟨hrom, hparams⟩ := exec_rom_params hexec
    exact ⟨hrom, hparams⟩

/-- Settles O19. -/
theorem onlySetmodeChangesMode : Obligations.OnlySetmodeChangesMode :=
  fun _ _ _ h hne => (exec_mode_cases h).resolve_left hne

/-- Settles O20: where BUF is written at all, it is by FEED in the cell FILL. -/
theorem onlyFeedWritesCellFill : Obligations.OnlyFeedWritesCellFill := by
  intro i s t j hj h hne
  obtain ⟨-, hbuf⟩ | ⟨-, hbuf⟩ | ⟨c, rfl, -, hfill, hbuf⟩ := exec_fill_buf_cases h
  · simp [hbuf] at hne
  · simp [hbuf] at hne
  · have hj' : j = s.fill.toNat := by
      by_contra hjne
      exact hne (by simp [hbuf, Ne.symm hjne])
    exact ⟨c, rfl, hj', by simp [hbuf, hj'], hfill⟩

/-- Settles O21. -/
theorem fillChangesOnlyByOneOrToZero : Obligations.FillChangesOnlyByOneOrToZero := by
  intro i s t h
  obtain ⟨hfill, -⟩ | ⟨hfill, -⟩ | ⟨c, hi, hlt, hfill, -⟩ := exec_fill_buf_cases h
  · exact .inl hfill
  · exact .inr (.inl hfill)
  · exact .inr (.inr ⟨c, hi, hlt, hfill⟩)

/-- Settles O24. -/
theorem staleCellsAreInvisible : Obligations.StaleCellsAreInvisible :=
  fun i _ _ s' hst => nextSameButStaleCells_exec hst i s'

/-- Settles O49: from HUNT the frame before the marker is empty. -/
theorem fedBytesAreStoredInOrder : Obligations.FedBytesAreStoredInOrder := by
  intro s bs h0 hlen
  obtain ⟨t, ht, hst⟩ := execAll_feed_hunt h0 hlen
  have hframe : frame s = [] := by simp [frame, h0]
  refine ⟨t, ht, ?_, ?_, fun j hj hlt => hst.cells j hj ?_, hst.outcomes_eq, hst.others⟩
  · simpa [h0] using hst.fill_toNat
  · simpa [hframe] using hst.frame_eq
  · simpa [h0] using hlt

/-- Settles O10. -/
theorem resetValues : Obligations.ResetValues :=
  ⟨fun _ _ => ⟨rfl, rfl, rfl, rfl, rfl⟩, rfl⟩

/-- Settles O13: nothing is buffered after reset. -/
theorem resetIsLegal : Obligations.ResetIsLegal :=
  fun rom params => legal_of_fill_zero (resetWith_fill rom params)

/-- Settles O17: the three commands read FILL before anything else. -/
theorem illegalFillFaults : Obligations.IllegalFillFaults :=
  fun _ _ h => ⟨withLegalFill_of_gt h, withLegalFill_of_gt h, withLegalFill_of_gt h⟩

end Sys2Proof.Proofs

/-! PROOFS. The statements of 20_memory.md: distances, the destructive read, streams of commands, several sources and
several instances. -/

namespace Sys2Proof.Machine

/-! ### Distances (R41) -/

theorem dist16_eq_append (hi lo : Byte) : dist16 hi lo = hi ++ lo := by
  rw [BitVec.append_def, BitVec.shiftLeftZeroExtend_eq, BitVec.setWidth'_eq]
  rfl

theorem dist16_toNat (hi lo : Byte) : (dist16 hi lo).toNat = 256 * hi.toNat + lo.toNat := by
  rw [dist16_eq_append, BitVec.toNat_append, ← Nat.shiftLeft_add_eq_or_of_lt lo.isLt, Nat.shiftLeft_eq, Nat.mul_comm]

@[simp] theorem hiByte_dist16 (hi lo : Byte) : hiByte (dist16 hi lo) = hi := by
  rw [dist16_eq_append]
  exact BitVec.extractLsb'_append_eq_left

@[simp] theorem loByte_dist16 (hi lo : Byte) : loByte (dist16 hi lo) = lo := by
  rw [dist16_eq_append]
  exact BitVec.extractLsb'_append_eq_right

/-! ### DECODE of an empty frame (R47, R129) -/

theorem exec_decode_of_le {s : State} (h : s.fill.toNat ≤ cap) :
    exec .decode s = .next (observe (respond (clearFrame s)
      (sampleResponse (channels s.mode) (decodeAttempt s).2)) (decodeAttempt s).1) := withLegalFill_of_le h

theorem decodeAttempt_of_notMem {s : State} (h : s.fill.toNat ∉ accept s.mode) :
    decodeAttempt s = (.frameLengthMismatch, sentinels (channels s.mode)) := if_pos h

/-- No mode accepts an empty frame (R121). -/
theorem zero_notMem_accept (m : Mode) : 0 ∉ accept m := by cases m <;> decide

theorem sampleResponse_sentinels (m : Mode) :
    sampleResponse (channels m) (sentinels (channels m)) = .sample (BitVec.ofNat 3 (channels m)) 0#64 := by
  rw [sampleResponse, packLanes_sentinels]

theorem exec_decode_of_fill_zero {s : State} (h : s.fill = 0#4) :
    exec .decode s = .next (observe (respond (clearFrame s)
      (.sample (BitVec.ofNat 3 (channels s.mode)) 0#64)) .frameLengthMismatch) := by
  have hlen : s.fill.toNat ∉ accept s.mode := by simpa [h] using zero_notMem_accept s.mode
  rw [exec_decode_of_le (by simp [h]), decodeAttempt_of_notMem hlen, sampleResponse_sentinels]

/-! ### The port is invisible to a command (R48)

A command reads and writes nothing of the words that wait behind it, so it commutes with exchanging them. -/

/-- The words pending at the port are exchanged for `ps`. -/
def setPort (ps : List Word) (s : State) : State := { s with port := ps }

/-- An outcome with its next state, where it has one, changed by `f`. -/
def mapNext (f : State → State) : Host.Outcome State Fault Refusal → Host.Outcome State Fault Refusal
  | .next s => .next (f s)
  | .fault r => .fault r
  | .refused r => .refused r

theorem withLegalFill_setPort (ps : List Word) (s t : State) :
    withLegalFill (setPort ps s) (setPort ps t) = mapNext (setPort ps) (withLegalFill s t) := by
  rw [withLegalFill, withLegalFill, apply_ite (mapNext (setPort ps))]
  rfl

theorem feedOverrun_setPort (ps : List Word) (s : State) :
    feedOverrun (setPort ps s) = setPort ps (feedOverrun s) := by
  have hparams : (setPort ps s).params = s.params := rfl
  rw [feedOverrun, feedOverrun, hparams]
  cases s.params.overrun <;> rfl

theorem feedByte_setPort (ps : List Word) (b : Byte) (s : State) :
    feedByte b (setPort ps s) = setPort ps (feedByte b s) := by
  have hfill : (setPort ps s).fill = s.fill := rfl
  by_cases h0 : s.fill = 0#4
  · by_cases hb : b = marker
    · subst hb
      rw [feedByte_marker h0, feedByte_marker (hfill.trans h0)]
      rfl
    · rw [feedByte_discard h0 hb, feedByte_discard (hfill.trans h0) hb]
      rfl
  · by_cases h1 : s.fill.toNat < cap
    · rw [feedByte_append h0 h1, feedByte_append (hfill ▸ h0) (hfill ▸ h1)]
      rfl
    · rw [feedByte_full h0 h1, feedByte_full (hfill ▸ h0) (hfill ▸ h1)]
      exact feedOverrun_setPort ps s

theorem execSetmode_setPort (ps : List Word) (m : BitVec 2) (s : State) :
    execSetmode m (setPort ps s) = mapNext (setPort ps) (execSetmode m s) := by
  unfold execSetmode
  cases modeOfCode m <;> rfl

theorem execRrcheck_setPort (ps : List Word) (b0 b1 b2 : Byte) (s : State) :
    execRrcheck b0 b1 b2 (setPort ps s) = mapNext (setPort ps) (execRrcheck b0 b1 b2 s) := by
  rw [execRrcheck, execRrcheck, apply_ite (mapNext (setPort ps))]
  rfl

theorem exec_setPort (ps : List Word) (i : Instr) (s : State) :
    exec i (setPort ps s) = mapNext (setPort ps) (exec i s) := by
  cases i with
  | feed b =>
    exact (congrArg (withLegalFill (setPort ps s)) (feedByte_setPort ps b s)).trans
      (withLegalFill_setPort ps s (feedByte b s))
  | decode => exact withLegalFill_setPort ps s (observe (respond (clearFrame s)
      (sampleResponse (channels s.mode) (decodeAttempt s).2)) (decodeAttempt s).1)
  | status => exact withLegalFill_setPort ps s (observe (respond s (.status (statusByte s))) .statusRead)
  | setmode m => exact execSetmode_setPort ps m s
  | rrcheck b0 b1 b2 => exact execRrcheck_setPort ps b0 b1 b2 s
  | rstf | reservedMode | reservedOp0 | reservedOp7 | reservedHigh op => rfl

/-- A command writes neither the port nor the reset input. -/
theorem exec_port_resetLine {i : Instr} {s t : State} (h : exec i s = .next t) :
    t.port = s.port ∧ t.resetLine = s.resetLine := by
  obtain ⟨f, m, b, r, o, rfl, -⟩ := exec_cases h
  exact ⟨rfl, rfl⟩

/-- A run over the words at the head of the port is the fold of their commands; the words behind them stay. -/
theorem runSteps_eq_execAll {ws : List Word} (rest : List Word) {s : State} (hreset : s.resetLine = false)
    (hport : s.port = ws ++ rest) : runSteps ws.length s = execAll (ws.map decode) (setPort rest s) := by
  induction ws generalizing s with
  | nil =>
    have hs : setPort rest s = s := by rw [setPort, ← List.nil_append rest, ← hport]
    exact congrArg Host.Outcome.next hs.symm
  | cons w ws ih =>
    have hstep : step s = mapNext (setPort (ws ++ rest)) (exec (decode w) (setPort rest s)) := by
      rw [← exec_setPort]
      exact Proofs.step_of_port_cons hreset hport
    cases hexec : exec (decode w) (setPort rest s) with
    | next t =>
      obtain ⟨htport, htreset⟩ := exec_port_resetLine hexec
      have hback : setPort rest (setPort (ws ++ rest) t) = t := congrArg (setPort · t) htport.symm
      have hrun := ih (s := setPort (ws ++ rest) t) (htreset.trans hreset) rfl
      rw [hback] at hrun
      rw [hexec] at hstep
      simpa [runSteps, execAll, hstep, hexec, mapNext] using hrun
    | fault r => simp [runSteps, execAll, hstep, hexec, mapNext]
    | refused r => simp [runSteps, execAll, hstep, hexec, mapNext]

/-! ### Streams of commands in a legal state (R49, R170) -/

/-- Every command completes where FILL is legal. -/
theorem exec_completes_of_le (i : Instr) {s : State} (h : s.fill.toNat ≤ cap) : Completes (exec i s) := by
  cases i with
  | feed b => exact ⟨_, exec_feed_of_le h⟩
  | decode => exact ⟨_, exec_decode_of_le h⟩
  | status => exact ⟨_, withLegalFill_of_le h⟩
  | setmode m =>
    obtain ⟨mode, -, hm⟩ | ⟨-, hm⟩ := execSetmode_cases m s
    · exact ⟨_, hm⟩
    · exact ⟨_, hm⟩
  | rrcheck b0 b1 b2 =>
    obtain ⟨r, o, hr, -⟩ := execRrcheck_next b0 b1 b2 s
    exact ⟨_, hr⟩
  | rstf | reservedMode | reservedOp0 | reservedOp7 | reservedHigh op => exact ⟨_, rfl⟩

/-- One label per command (R171). -/
theorem exec_outcomes {i : Instr} {s t : State} (h : exec i s = .next t) : ∃ o, t.outcomes = s.outcomes ++ [o] := by
  obtain ⟨f, m, b, r, o, rfl, -⟩ := exec_cases h
  exact ⟨o, rfl⟩

/-- From a legal state any list of commands completes in a legal state, with one label for each command. -/
theorem execAll_of_legal (is : List Instr) {s : State} (hs : Legal s) :
    ∃ t, execAll is s = .next t ∧ Legal t ∧ t.port = s.port ∧
      t.outcomes.length = s.outcomes.length + is.length := by
  induction is generalizing s with
  | nil => exact ⟨s, rfl, hs, rfl, rfl⟩
  | cons i is ih =>
    obtain ⟨u, hu⟩ := exec_completes_of_le i hs.1
    obtain ⟨t, ht, hlegal, hport, hlabels⟩ := ih (exec_keeps_legal hs hu)
    obtain ⟨huport, -⟩ := exec_port_resetLine hu
    obtain ⟨o, ho⟩ := exec_outcomes hu
    refine ⟨t, (execAll_cons_of_next hu).trans ht, hlegal, hport.trans huport, ?_⟩
    simp only [hlabels, ho, List.length_append, List.length_cons, List.length_nil]
    omega

/-- An interleaving loses and adds no word. -/
theorem Interleaves.length_eq {a b c : List Word} (h : Interleaves a b c) : c.length = a.length + b.length := by
  induction h with
  | nil => rfl
  | left w _ ih => simp only [List.length_cons, ih]; omega
  | right w _ ih => simp only [List.length_cons, ih]; omega

/-! ### Several instances (R50) -/

/-- A step at `k` writes entry `k` of the platform, with the next state of that entry alone. Where the platform has no
entry `k` nothing is written, and any `t` will do. -/
theorem platformStep_eq_next_iff {k : Nat} {p q : Platform} :
    platformStep k p = .next q ↔
      ∃ t, (∀ s, p.instances[k]? = some s → step s = .next t) ∧ q = ⟨p.instances.set k t⟩ := by
  cases hk : p.instances[k]? with
  | none =>
    have hset (t : State) : p.instances.set k t = p.instances :=
      List.set_eq_of_length_le (List.getElem?_eq_none_iff.mp hk)
    have hwait : platformStep k p = .next p := by simp [platformStep, hk]
    rw [hwait]
    constructor
    · rintro ⟨⟩
      exact ⟨State.reset, by simp, by rw [hset]⟩
    · rintro ⟨t, -, rfl⟩
      rw [hset]
  | some s => cases hs : step s <;> simp [platformStep, hk, hs, eq_comm]

theorem platformRun_cons_eq_next_iff {k : Nat} {ks : List Nat} {p r : Platform} :
    platformRun (k :: ks) p = .next r ↔ ∃ q, platformStep k p = .next q ∧ platformRun ks q = .next r := by
  cases hk : platformStep k p <;> simp [platformRun, hk]

theorem platformRun_pair_eq_next_iff {j k : Nat} {p r : Platform} :
    platformRun [j, k] p = .next r ↔ ∃ q, platformStep j p = .next q ∧ platformStep k q = .next r := by
  have hnil (q : Platform) : platformRun [] q = .next r ↔ q = r := by simp [platformRun]
  simp only [platformRun_cons_eq_next_iff, hnil, exists_eq_right]

/-- Each of two different instances reads and writes its own entry, so the second step finds its entry as it was and the
two writes can be exchanged. -/
theorem platformStep_comm {j k : Nat} {p q r : Platform} (hne : j ≠ k) (hj : platformStep j p = .next q)
    (hk : platformStep k q = .next r) : ∃ q', platformStep k p = .next q' ∧ platformStep j q' = .next r := by
  obtain ⟨t, hst, rfl⟩ := platformStep_eq_next_iff.mp hj
  obtain ⟨u, hsu, rfl⟩ := platformStep_eq_next_iff.mp hk
  simp only [List.getElem?_set_ne hne] at hsu
  refine ⟨⟨p.instances.set k u⟩, platformStep_eq_next_iff.mpr ⟨u, hsu, rfl⟩,
    platformStep_eq_next_iff.mpr ⟨t, ?_, ?_⟩⟩
  · simpa only [List.getElem?_set_ne hne.symm] using hst
  · rw [List.set_comm t u hne]

/-- No step writes ROM, so the entry that was written reads the same one as before. -/
theorem platformStep_sharesRom {k : Nat} {p q : Platform} {rom : Rom} (h : platformStep k p = .next q)
    (hp : SharesRom rom p) : SharesRom rom q := by
  obtain ⟨t, hst, rfl⟩ := platformStep_eq_next_iff.mp h
  intro s hs
  obtain ⟨i, hi⟩ := List.getElem?_of_mem hs
  by_cases hik : k = i
  · subst hik
    rw [List.getElem?_set_self', Option.map_eq_map, Option.map_eq_some_iff] at hi
    obtain ⟨s₀, hs₀, rfl⟩ := hi
    obtain ⟨hrom, -⟩ := Proofs.noStepWritesRomOrParams s₀ t (hst s₀ hs₀)
    exact hrom.trans (hp s₀ (List.mem_of_getElem? hs₀))
  · rw [List.getElem?_set_ne hik] at hi
    exact hp s (List.mem_of_getElem? hi)

end Sys2Proof.Machine

namespace Sys2Proof.Proofs
open Sys2Proof.Machine

/-! ### The obligations -/

/-- Settles O12: a command commutes with exchanging the words that wait behind it. -/
theorem runIsFoldOfCommands : Obligations.RunIsFoldOfCommands :=
  fun _ _ rest => runSteps_eq_execAll rest

/-- Settles O33: the first DECODE clears the frame, whatever it answers, so the second finds FILL = 0. -/
theorem secondDecodeAnswersSentinel : Obligations.SecondDecodeAnswersSentinel := by
  intro s hs
  have hfirst := exec_decode_of_le hs
  have hsecond := exec_decode_of_fill_zero (s := observe (respond (clearFrame s)
    (sampleResponse (channels s.mode) (decodeAttempt s).2)) (decodeAttempt s).1) rfl
  exact ⟨_, (execAll_cons_of_next hfirst).trans (execAll_cons_of_next hsecond), by simp, by simp, by simp⟩

/-- Settles O47. -/
theorem distancesAreBigEndian : Obligations.DistancesAreBigEndian :=
  fun hi lo => ⟨dist16_eq_append hi lo, dist16_toNat hi lo, hiByte_dist16 hi lo, loByte_dist16 hi lo⟩

/-- Settles O54: the run is the fold of the stream's commands, and in a legal state every command completes. -/
theorem everyInterleavingRunsWhole : Obligations.EveryInterleavingRunsWhole := by
  intro s a b c hs hreset hint hport
  have hlegal : Legal (setPort [] s) := hs
  obtain ⟨t, ht, htlegal, htport, hlabels⟩ := execAll_of_legal (c.map decode) hlegal
  have hrun := runSteps_eq_execAll [] hreset (hport.trans (List.append_nil c).symm)
  rw [hint.length_eq] at hrun
  rw [List.length_map, hint.length_eq, ← Nat.add_assoc] at hlabels
  exact ⟨t, hrun.trans ht, htlegal, htport, hlabels⟩

/-- Settles O55: a step writes one entry of the platform, and no step writes ROM. -/
theorem instancesShareOnlyRom : Obligations.InstancesShareOnlyRom := by
  intro k p q h
  obtain ⟨t, -, rfl⟩ := platformStep_eq_next_iff.mp h
  exact ⟨fun j hj => List.getElem?_set_ne hj.symm, List.length_set, fun rom => platformStep_sharesRom h⟩

/-- Settles O56: the two steps read and write different entries. -/
theorem stepsOfDifferentInstancesCommute : Obligations.StepsOfDifferentInstancesCommute := by
  intro j k p q hne h
  obtain ⟨u, hj, hk⟩ := platformRun_pair_eq_next_iff.mp h
  exact platformRun_pair_eq_next_iff.mpr (platformStep_comm hne hj hk)

end Sys2Proof.Proofs

/-! PROOFS. The statements of 30_encoding.md: the fields of a word, the decoder and the encoder, the rows of the opcode
table, the responses of the commands, the two frame layouts, and the assembler's text. -/

namespace Sys2Proof

/-! ### A word as its fields (R64, R66)

Under the mask of the fields that a command reads, a word is those fields, each at its place. -/

/-- The word with `op` in its opcode field and 0 in every other bit. -/
def opWord (op : BitVec 4) : Word := op.setWidth 32 <<< 28

theorem opWord_inj : ∀ {op op' : BitVec 4}, opWord op = opWord op' ↔ op = op' := by decide

theorem and_opMask (w : Word) : w &&& 0xF0000000#32 = opWord (opField w) := by
  ext k hk
  interval_cases k <;> simp [opWord, opField]

theorem and_byteMask (w : Word) :
    w &&& 0xF00000FF#32 = opWord (opField w) ||| (byteField0 w).setWidth 32 := by
  ext k hk
  interval_cases k <;> simp [opWord, opField, byteField0]

theorem and_modeMask (w : Word) :
    w &&& 0xF0000003#32 = opWord (opField w) ||| (modeField w).setWidth 32 := by
  ext k hk
  interval_cases k <;> simp [opWord, opField, modeField]

theorem and_bytesMask (w : Word) :
    w &&& 0xF0FFFFFF#32 = opWord (opField w) ||| (byteField2 w).setWidth 32 <<< 16 |||
      (byteField1 w).setWidth 32 <<< 8 ||| (byteField0 w).setWidth 32 := by
  ext k hk
  interval_cases k <;> simp [opWord, opField, byteField0, byteField1, byteField2]

/-! ### The fields of an encoded word (R66) -/

/-- OP of a reserved word with the low three bits `op` and the top bit set. -/
def highOpcode (op : BitVec 3) : BitVec 4 := 0x8#4 ||| op.setWidth 4

theorem highOpcode_getLsbD_three : ∀ op : BitVec 3, (highOpcode op).getLsbD 3 = true := by decide

theorem highOpcode_extractLsb' : ∀ op : BitVec 3, (highOpcode op).extractLsb' 0 3 = op := by decide

theorem highOpcode_of_getLsbD_three : ∀ op : BitVec 4,
    op.getLsbD 3 = true → highOpcode (op.extractLsb' 0 3) = op := by decide

/-- The value of OP that an instruction has (R65). -/
def Instr.opcode : Instr → BitVec 4
  | .reservedOp0 => 0x0#4
  | .feed _ => 0x1#4
  | .decode => 0x2#4
  | .rstf => 0x3#4
  | .setmode _ => 0x4#4
  | .reservedMode => 0x4#4
  | .rrcheck _ _ _ => 0x5#4
  | .status => 0x6#4
  | .reservedOp7 => 0x7#4
  | .reservedHigh op => highOpcode op

theorem opcode_decode (w : Word) : (decode w).opcode = opField w := by
  obtain ⟨hop, hdec⟩ | ⟨hop, hdec⟩ | ⟨hop, hdec⟩ | ⟨hop, hdec⟩ | ⟨hop, -, hdec⟩ | ⟨hop, -, hdec⟩ |
    ⟨hop, hdec⟩ | ⟨hop, hdec⟩ | ⟨hop, hdec⟩ | ⟨hop, hdec⟩ := decode_cases w <;> rw [hdec]
  any_goals exact hop.symm
  exact highOpcode_of_getLsbD_three _ hop

theorem opField_encode (i : Instr) : opField (encode i) = i.opcode := by
  cases i with
  | feed | setmode | rrcheck | reservedHigh =>
    ext k hk
    interval_cases k <;> simp [opField, encode, Instr.opcode, highOpcode]
  | decode | rstf | status | reservedMode | reservedOp0 | reservedOp7 => rfl

theorem byteField0_encode_feed (b : Byte) : byteField0 (encode (.feed b)) = b := by
  ext k hk
  interval_cases k <;> simp [byteField0, encode]

theorem modeField_encode_setmode (m : BitVec 2) : modeField (encode (.setmode m)) = m := by
  ext k hk
  interval_cases k <;> simp [modeField, encode]

theorem byteFields_encode_rrcheck (b0 b1 b2 : Byte) : byteField2 (encode (.rrcheck b0 b1 b2)) = b0 ∧
    byteField1 (encode (.rrcheck b0 b1 b2)) = b1 ∧ byteField0 (encode (.rrcheck b0 b1 b2)) = b2 := by
  refine ⟨?_, ?_, ?_⟩ <;> ext k hk <;> interval_cases k <;>
    simp [byteField0, byteField1, byteField2, encode]

/-! ### Decoding by the value of OP (R65, R74) -/

section
variable {w : Word}

theorem decode_of_op0 (h : opField w = 0x0#4) : decode w = .reservedOp0 := by simp [decode, h]
theorem decode_of_op1 (h : opField w = 0x1#4) : decode w = .feed (byteField0 w) := by simp [decode, h]
theorem decode_of_op2 (h : opField w = 0x2#4) : decode w = .decode := by simp [decode, h]
theorem decode_of_op3 (h : opField w = 0x3#4) : decode w = .rstf := by simp [decode, h]
theorem decode_of_op4 (h : opField w = 0x4#4) :
    decode w = if modeField w = 3#2 then .reservedMode else .setmode (modeField w) := by simp [decode, h]
theorem decode_of_op5 (h : opField w = 0x5#4) :
    decode w = .rrcheck (byteField2 w) (byteField1 w) (byteField0 w) := by simp [decode, h]
theorem decode_of_op6 (h : opField w = 0x6#4) : decode w = .status := by simp [decode, h]
theorem decode_of_op7 (h : opField w = 0x7#4) : decode w = .reservedOp7 := by simp [decode, h]

theorem decode_of_op_high (h : (opField w).getLsbD 3 = true) :
    decode w = .reservedHigh ((opField w).extractLsb' 0 3) := by
  unfold decode
  split <;> simp_all

end

/-- Each field of the encoded word that the decoder reads holds the instruction's own OP or operand. -/
theorem decode_encode {i : Instr} (h : i.wellFormed = true) : decode (encode i) = i := by
  have hop := opField_encode i
  cases i with
  | reservedOp0 | decode | rstf | status | reservedOp7 | reservedMode => rfl
  | feed b => rw [decode_of_op1 hop, byteField0_encode_feed]
  | setmode m =>
    have hm : m ≠ 3#2 := by simpa [Instr.wellFormed] using h
    rw [decode_of_op4 hop, modeField_encode_setmode, if_neg hm]
  | rrcheck b0 b1 b2 =>
    obtain ⟨h2, h1, h0⟩ := byteFields_encode_rrcheck b0 b1 b2
    rw [decode_of_op5 hop, h2, h1, h0]
  | reservedHigh op =>
    have htop : (opField (encode (.reservedHigh op))).getLsbD 3 = true := by
      rw [hop]
      exact highOpcode_getLsbD_three op
    rw [decode_of_op_high htop, hop]
    exact congrArg Instr.reservedHigh (highOpcode_extractLsb' op)

theorem decode_wellFormed (w : Word) : (decode w).wellFormed = true := by
  obtain ⟨-, hdec⟩ | ⟨-, hdec⟩ | ⟨-, hdec⟩ | ⟨-, hdec⟩ | ⟨-, -, hdec⟩ | ⟨-, hmode, hdec⟩ |
    ⟨-, hdec⟩ | ⟨-, hdec⟩ | ⟨-, hdec⟩ | ⟨-, hdec⟩ := decode_cases w <;> rw [hdec]
  any_goals rfl
  simpa [Instr.wellFormed] using hmode

/-! ### Ignored bits (R68) -/

/-- The bits used by the commands of an opcode. -/
def usedMask (op : BitVec 4) : Word :=
  if op = 0x1#4 then 0xF00000FF#32
  else if op = 0x4#4 then 0xF0000003#32
  else if op = 0x5#4 then 0xF0FFFFFF#32
  else 0xF0000000#32

theorem usedBits_eq_usedMask (i : Instr) : i.usedBits = usedMask i.opcode := by
  cases i with
  | reservedHigh op => revert op; decide
  | _ => rfl

theorem opField_usedMask : ∀ op : BitVec 4, opField (usedMask op) = 0xF#4 := by decide

theorem opField_and_usedBits (w : Word) (i : Instr) : opField (w &&& i.usedBits) = opField w := by
  have hmask : opField i.usedBits = 0xF#4 := by rw [usedBits_eq_usedMask, opField_usedMask]
  calc opField (w &&& i.usedBits) = opField w &&& opField i.usedBits := BitVec.extractLsb'_and
    _ = opField w := by rw [hmask]; exact BitVec.and_allOnes

theorem encode_reservedHigh_of_getLsbD_three : ∀ op : BitVec 4,
    op.getLsbD 3 = true → encode (.reservedHigh (op.extractLsb' 0 3)) = opWord op := by decide

/-- The encoder writes the fields that the decoder read, which are the word under the mask of its used bits. -/
theorem encode_decode (w : Word) : encode (decode w) = w &&& (decode w).usedBits := by
  obtain ⟨hop, hdec⟩ | ⟨hop, hdec⟩ | ⟨hop, hdec⟩ | ⟨hop, hdec⟩ | ⟨hop, hmode, hdec⟩ | ⟨hop, -, hdec⟩ |
    ⟨hop, hdec⟩ | ⟨hop, hdec⟩ | ⟨hop, hdec⟩ | ⟨hop, hdec⟩ := decode_cases w <;> rw [hdec, Instr.usedBits]
  · rw [and_opMask, hop]; rfl
  · rw [and_byteMask, hop]; rfl
  · rw [and_opMask, hop]; rfl
  · rw [and_opMask, hop]; rfl
  · rw [and_modeMask, hop, hmode]; rfl
  · rw [and_modeMask, hop]; rfl
  · rw [and_bytesMask, hop]; rfl
  · rw [and_opMask, hop]; rfl
  · rw [and_opMask, hop]; rfl
  · rw [and_opMask]; exact encode_reservedHigh_of_getLsbD_three _ hop

/-- The used bits hold OP, which says what they are, so the other word has the same used bits; each word decodes as its own
used bits do. -/
theorem decode_eq_of_and_usedBits_eq {w v : Word}
    (h : w &&& (decode w).usedBits = v &&& (decode w).usedBits) : decode v = decode w := by
  have hop : opField v = opField w := by
    rw [← opField_and_usedBits v (decode w), ← h, opField_and_usedBits]
  have hused : (decode v).usedBits = (decode w).usedBits := by
    rw [usedBits_eq_usedMask, usedBits_eq_usedMask, opcode_decode, opcode_decode, hop]
  have hword : encode (decode v) = encode (decode w) := by
    rw [encode_decode, encode_decode, hused, h]
  rw [← decode_encode (decode_wellFormed v), hword, decode_encode (decode_wellFormed w)]

/-! ### The rows of the opcode table (R74) -/

section
variable {w : Word}

/-- A row that fixes OP alone. -/
theorem covers_opRow_iff (op : BitVec 4) :
    (OpcodeRow.mk (opWord op) 0xF0000000#32 none).covers w = true ↔ opField w = op := by
  simp [OpcodeRow.covers, and_opMask, opWord_inj]

/-- OP = 0x4 with a mode code, as the bits that the mask of the reserved mode row keeps. -/
theorem and_modeMask_eq_iff : w &&& 0xF0000003#32 = 0x40000003#32 ↔ opField w = 0x4#4 ∧ modeField w = 3#2 := by
  have hfields : ∀ (op : BitVec 4) (m : BitVec 2),
      opWord op ||| m.setWidth 32 = 0x40000003#32 ↔ op = 0x4#4 ∧ m = 3#2 := by decide
  rw [and_modeMask, hfields]

theorem covers_reservedModeRow_iff :
    Instr.reservedMode.row.covers w = true ↔ opField w = 0x4#4 ∧ modeField w = 3#2 := by
  simp [OpcodeRow.covers, Instr.row, and_modeMask_eq_iff]

theorem covers_setmodeRow_iff {m : BitVec 2} :
    (Instr.setmode m).row.covers w = true ↔ opField w = 0x4#4 ∧ modeField w ≠ 3#2 := by
  have hop : w &&& 0xF0000000#32 = 0x40000000#32 ↔ opField w = 0x4#4 := by
    rw [and_opMask]
    exact opWord_inj (op' := 0x4#4)
  have hcovers : (Instr.setmode m).row.covers w = true ↔
      w &&& 0xF0000000#32 = 0x40000000#32 ∧ ¬ w &&& 0xF0000003#32 = 0x40000003#32 := by
    simp [OpcodeRow.covers, Instr.row]
  rw [hcovers, hop, and_modeMask_eq_iff]
  tauto

theorem covers_reservedHighRow_iff {op : BitVec 3} :
    (Instr.reservedHigh op).row.covers w = true ↔ (opField w).getLsbD 3 = true := by
  have htop : ∀ op : BitVec 4, opWord op &&& 0x80000000#32 = 0x80000000#32 ↔ op.getLsbD 3 = true := by decide
  have hmask : w &&& 0x80000000#32 = opWord (opField w) &&& 0x80000000#32 := by
    rw [← and_opMask, BitVec.and_assoc]; rfl
  simp [OpcodeRow.covers, Instr.row, hmask, htop]

end

theorem row_decode_covers (w : Word) : (decode w).row.covers w = true := by
  obtain ⟨hop, hdec⟩ | ⟨hop, hdec⟩ | ⟨hop, hdec⟩ | ⟨hop, hdec⟩ | ⟨hop, hmode, hdec⟩ | ⟨hop, hmode, hdec⟩ |
    ⟨hop, hdec⟩ | ⟨hop, hdec⟩ | ⟨hop, hdec⟩ | ⟨hop, hdec⟩ := decode_cases w <;> rw [hdec]
  · exact (covers_opRow_iff 0x0#4).mpr hop
  · exact (covers_opRow_iff 0x1#4).mpr hop
  · exact (covers_opRow_iff 0x2#4).mpr hop
  · exact (covers_opRow_iff 0x3#4).mpr hop
  · exact covers_reservedModeRow_iff.mpr ⟨hop, hmode⟩
  · exact covers_setmodeRow_iff.mpr ⟨hop, hmode⟩
  · exact (covers_opRow_iff 0x5#4).mpr hop
  · exact (covers_opRow_iff 0x6#4).mpr hop
  · exact (covers_opRow_iff 0x7#4).mpr hop
  · exact covers_reservedHighRow_iff.mpr hop

/-- What a row fixes of OP and M decides what the word decodes to. -/
theorem row_eq_of_covers {i : Instr} {w : Word} (h : i.row.covers w = true) : i.row = (decode w).row := by
  cases i with
  | reservedOp0 => rw [decode_of_op0 ((covers_opRow_iff 0x0#4).mp h)]
  | feed b => rw [decode_of_op1 ((covers_opRow_iff 0x1#4).mp h)]; rfl
  | decode => rw [decode_of_op2 ((covers_opRow_iff 0x2#4).mp h)]
  | rstf => rw [decode_of_op3 ((covers_opRow_iff 0x3#4).mp h)]
  | setmode m =>
    obtain ⟨hop, hmode⟩ := covers_setmodeRow_iff.mp h
    rw [decode_of_op4 hop, if_neg hmode]; rfl
  | reservedMode =>
    obtain ⟨hop, hmode⟩ := covers_reservedModeRow_iff.mp h
    rw [decode_of_op4 hop, if_pos hmode]
  | rrcheck b0 b1 b2 => rw [decode_of_op5 ((covers_opRow_iff 0x5#4).mp h)]; rfl
  | status => rw [decode_of_op6 ((covers_opRow_iff 0x6#4).mp h)]
  | reservedOp7 => rw [decode_of_op7 ((covers_opRow_iff 0x7#4).mp h)]
  | reservedHigh op => rw [decode_of_op_high (covers_reservedHighRow_iff.mp h)]; rfl

end Sys2Proof

namespace Sys2Proof.Machine

/-! ### Responses of each command (R70) -/

theorem execFeed_responses {b : Byte} {s t : State} (h : execFeed b s = .next t) : t.responses = s.responses := by
  obtain ⟨-, ⟨-, -, rfl⟩ | ⟨-, -, rfl⟩ | ⟨-, -, rfl⟩ | ⟨-, -, rfl⟩ | ⟨-, -, rfl⟩⟩ := execFeed_cases h <;> rfl

theorem execSetmode_responses {m : BitVec 2} {s t : State} (h : execSetmode m s = .next t) :
    t.responses = s.responses := by
  obtain ⟨mode, -, hm⟩ | ⟨-, hm⟩ := execSetmode_cases m s
  all_goals
    rw [hm] at h
    cases h
    rfl

theorem execRrcheck_responses {b0 b1 b2 : Byte} {s t : State} (h : execRrcheck b0 b1 b2 s = .next t) :
    ∃ r, t.responses = s.responses ++ [r] := by
  obtain ⟨r, o, hr, -⟩ := execRrcheck_next b0 b1 b2 s
  rw [hr] at h
  cases h
  exact ⟨r, rfl⟩

theorem execRrcheck_of_crc {b0 b1 b2 : Byte} {s : State} (h : crc8 s.rom [b0, b1] = b2) :
    execRrcheck b0 b1 b2 s = .next (observe (respond s (.distance (dist16 b0 b1))) .ok) := if_pos h

/-! ### The layout of a streaming frame (R60) -/

theorem dataBytes_length (ds : List Distance) : (dataBytes ds).length = 2 * ds.length := by
  induction ds with
  | nil => rfl
  | cons d ds ih =>
    have hcons : dataBytes (d :: ds) = hiByte d :: loByte d :: dataBytes ds := rfl
    simp only [hcons, List.length_cons, ih]
    omega

/-- Distance `j` stands at the offsets `2j` and `2j + 1` of the data bytes, high byte first. -/
theorem dataBytes_getElem? (ds : List Distance) (j : Nat) (hj : j < ds.length) :
    (dataBytes ds)[2 * j]? = some (hiByte ds[j]) ∧ (dataBytes ds)[2 * j + 1]? = some (loByte ds[j]) := by
  induction ds generalizing j with
  | nil => simp at hj
  | cons d ds ih =>
    cases j with
    | zero => exact ⟨rfl, rfl⟩
    | succ j => exact ih j (by simpa using hj)

/-- Everything before the checksum of a streaming frame. -/
def streamBody (ds : List Distance) : List Byte := marker :: dataBytes ds

theorem streamFrame_eq (rom : Rom) (ds : List Distance) :
    streamFrame rom ds = streamBody ds ++ [crc8 rom (streamBody ds)] := rfl

theorem streamBody_length {m : Mode} {ds : List Distance} (h : ds.length = channels m) :
    (streamBody ds).length = frameLen m - 1 := by
  simp only [streamBody, frameLen, List.length_cons, dataBytes_length, h]
  omega

theorem streamFrame_getElem?_of_lt (rom : Rom) {ds : List Distance} {k : Nat} (hk : k < (dataBytes ds).length) :
    (streamFrame rom ds)[k + 1]? = (dataBytes ds)[k]? := by
  rw [streamFrame_eq, List.getElem?_append_left (Nat.succ_lt_succ hk), streamBody, List.getElem?_cons_succ]

/-! ### The tokens of a line (R75) -/

/-- The text is one token wherever something that ends a word follows. -/
def IsToken (text : List Char) (tok : Token) : Prop :=
  ∀ rest : List Char, EndsWord rest → lexLine [] (text ++ rest) = (lexLine [] rest).map (tok :: ·)

theorem isToken_word {cs : List Char} (hplain : cs.all isPlain = true) (hne : cs ≠ []) :
    IsToken cs (.word cs) := fun rest hrest => by
  rw [lexLine_plain_append _ hplain, lexLine_endsWord _ _ hrest, List.append_nil, endWord_reverse _ hne]

theorem exists_isToken_of_mem_byteSpellings {b : Byte} {text : List Char} (h : text ∈ byteSpellings b) :
    ∃ tok, tok ≠ .comma ∧ operandValue tok = some b.toNat ∧ IsToken text tok := lexLine_byteSpelling b text h

/-- A comma ends a word. -/
theorem endsWord_separator {sep : List Char} (h : sep ∈ [",".toList, ", ".toList]) (rest : List Char) :
    EndsWord (sep ++ rest) := by
  obtain rfl | rfl : sep = [','] ∨ sep = [',', ' '] := by simpa using h
  · exact .inr (.inr rfl)
  · exact .inr (.inr rfl)

theorem lexLine_blank (rest : List Char) : lexLine [] (' ' :: rest) = lexLine [] rest := by
  have hend : endWord [] = id := rfl
  simp [lexLine, hend]

/-- The blank behind a comma makes no token. -/
theorem lexLine_separator {sep : List Char} (h : sep ∈ [",".toList, ", ".toList]) (rest : List Char) :
    lexLine [] (sep ++ rest) = (lexLine [] rest).map (.comma :: ·) := by
  have hcomma (cs : List Char) : lexLine [] (',' :: cs) = (lexLine [] cs).map (.comma :: ·) := by
    simp [lexLine, endWord]
  obtain rfl | rfl : sep = [','] ∨ sep = [',', ' '] := by simpa using h
  · exact hcomma rest
  · exact (hcomma (' ' :: rest)).trans (by rw [lexLine_blank])

/-! ### Operands -/

/-- Each token of the list is an operand with the value of the byte at its place. -/
def ReadsBytes (ts : List Token) (bs : List Byte) : Prop :=
  List.Forall₂ (fun t b => operandValue t = some b.toNat) ts bs

theorem operandValues_of_readsBytes {ts : List Token} {bs : List Byte} (h : ReadsBytes ts bs) :
    operandValues 256 ts = some (bs.map BitVec.toNat) := by
  induction h with
  | nil => rfl
  | @cons t b ts bs hvalue _ ih =>
    have hlt : b.toNat < 256 := b.isLt
    simp [operandValues, hvalue, ih, hlt]

theorem byteOperands_of_readsBytes {ts : List Token} {bs : List Byte} (h : ReadsBytes ts bs) :
    byteOperands ts = some bs := by
  simp [byteOperands, operandValues_of_readsBytes h, Function.comp_def]

theorem splitOperands_one {t : Token} (h : t ≠ .comma) : splitOperands [t] = some [t] := by
  cases t <;> simp_all [splitOperands]

theorem splitOperands_three {t0 t1 t2 : Token} (h0 : t0 ≠ .comma) (h1 : t1 ≠ .comma) (h2 : t2 ≠ .comma) :
    splitOperands [t0, .comma, t1, .comma, t2] = some [t0, t1, t2] := by
  rw [splitOperands, splitOperands, splitOperands_one h2]
  · rfl
  · exact h1
  · exact h0

theorem modeSpelling_word : ∀ m : BitVec 2, ∀ t ∈ modeSpellings m,
    t.all isPlain = true ∧ t ≠ [] ∧ modeValue (.word t) = some m := by decide

theorem modeSpellings_ne_nil : ∀ m : BitVec 2, m ≠ 3#2 → modeSpellings m ≠ [] := by decide

/-! ### The command of a mnemonic and its operands -/

theorem asmLine_feed {t : Token} {b : Byte} (h : ReadsBytes [t] [b]) :
    asmLine "FEED".toList [t] = some (.command (.feed b)) := by
  simp [asmLine, byteOperands_of_readsBytes h]

theorem asmLine_rrcheck {ts : List Token} {b0 b1 b2 : Byte} (h : ReadsBytes ts [b0, b1, b2]) :
    asmLine "RRCHECK".toList ts = some (.command (.rrcheck b0 b1 b2)) := by
  simp [asmLine, byteOperands_of_readsBytes h]

theorem asmLine_setmode {t : Token} {m : BitVec 2} (h : modeValue t = some m) :
    asmLine "SETMODE".toList [t] = some (.command (.setmode m)) := by
  simp [asmLine, h]

/-! ### From the tokens of a line to its word -/

/-- With any comment behind it, the text lexes to these tokens. -/
def LexesTo (text : List Char) (ts : List Token) : Prop :=
  ∀ comment : List Char, comment = [] ∨ comment.head? = some ';' → lexLine [] (text ++ comment) = some ts

theorem assemble_command {text : String} {i : Instr} (h : parseLine text = some [.command i]) (rom : Rom) :
    assemble rom [text] = some [encode i] := by
  simp [assemble, h, asmWords, asmExpand]

theorem assemblesTo_of_lexesTo {text mnemonic : List Char} {ts ops : List Token} {i : Instr}
    (hlex : LexesTo text (.word mnemonic :: ts)) (hsplit : splitOperands ts = some ops)
    (hline : asmLine mnemonic ops = some (.command i)) : AssemblesTo text i (encode i) := by
  refine ⟨rfl, fun rom comment hcomment => ?_⟩
  have hparse : parseLine (String.ofList (text ++ comment)) = some [.command i] := by
    simp [parseLine, hlex comment hcomment, hsplit, hline]
  exact ⟨hparse, assemble_command hparse rom⟩

theorem IsToken.lexesTo {text : List Char} {tok : Token} (h : IsToken text tok) : LexesTo text [tok] :=
  fun comment hcomment => by
    rw [h comment (endsWord_comment hcomment), lexLine_comment hcomment]
    rfl

theorem IsToken.lexesTo_separator {text more sep : List Char} {tok : Token} {ts : List Token}
    (h : IsToken text tok) (hsep : sep ∈ [",".toList, ", ".toList]) (hmore : LexesTo more ts) :
    LexesTo (text ++ (sep ++ more)) (tok :: .comma :: ts) := fun comment hcomment => by
  rw [List.append_assoc, List.append_assoc, h _ (endsWord_separator hsep _), lexLine_separator hsep,
    hmore comment hcomment]
  rfl

/-- A mnemonic, a blank and the operands. -/
theorem lexesTo_mnemonic_operands {m : List Char} (hplain : m.all isPlain = true) (hne : m ≠ []) {text : List Char}
    {ts : List Token} (h : LexesTo text ts) : LexesTo (m ++ ' ' :: text) (.word m :: ts) := fun comment hcomment => by
  rw [List.append_assoc, List.cons_append, lexLine_mnemonic m hplain hne, h comment hcomment]
  rfl

/-! ### The rows of R75's table -/

theorem feed_assemblesTo {b : Byte} {t : List Char} (h : t ∈ byteSpellings b) :
    AssemblesTo ("FEED".toList ++ ' ' :: t) (.feed b) (encode (.feed b)) := by
  obtain ⟨tok, hne, hvalue, htok⟩ := exists_isToken_of_mem_byteSpellings h
  exact assemblesTo_of_lexesTo (lexesTo_mnemonic_operands (by decide) (by decide) htok.lexesTo) (splitOperands_one hne)
    (asmLine_feed (.cons hvalue .nil))

theorem setmode_assemblesTo {m : BitVec 2} {t : List Char} (h : t ∈ modeSpellings m) :
    AssemblesTo ("SETMODE".toList ++ ' ' :: t) (.setmode m) (encode (.setmode m)) := by
  obtain ⟨hplain, hne, hvalue⟩ := modeSpelling_word m t h
  exact assemblesTo_of_lexesTo
    (lexesTo_mnemonic_operands (by decide) (by decide) (isToken_word hplain hne).lexesTo) rfl (asmLine_setmode hvalue)

theorem rrcheck_assemblesTo {b0 b1 b2 : Byte} {t0 t1 t2 sep : List Char} (h0 : t0 ∈ byteSpellings b0)
    (h1 : t1 ∈ byteSpellings b1) (h2 : t2 ∈ byteSpellings b2) (hsep : sep ∈ [",".toList, ", ".toList]) :
    AssemblesTo ("RRCHECK".toList ++ ' ' :: (t0 ++ (sep ++ (t1 ++ (sep ++ t2))))) (.rrcheck b0 b1 b2)
      (encode (.rrcheck b0 b1 b2)) := by
  obtain ⟨tok0, hne0, hvalue0, htok0⟩ := exists_isToken_of_mem_byteSpellings h0
  obtain ⟨tok1, hne1, hvalue1, htok1⟩ := exists_isToken_of_mem_byteSpellings h1
  obtain ⟨tok2, hne2, hvalue2, htok2⟩ := exists_isToken_of_mem_byteSpellings h2
  exact assemblesTo_of_lexesTo
    (lexesTo_mnemonic_operands (by decide) (by decide)
      (htok0.lexesTo_separator hsep (htok1.lexesTo_separator hsep htok2.lexesTo)))
    (splitOperands_three hne0 hne1 hne2) (asmLine_rrcheck (.cons hvalue0 (.cons hvalue1 (.cons hvalue2 .nil))))

theorem mnemonic_assemblesTo {m : List Char} {i : Instr} (hplain : m.all isPlain = true) (hne : m ≠ [])
    (hline : asmLine m [] = some (.command i)) : AssemblesTo m i (encode i) :=
  assemblesTo_of_lexesTo (isToken_word hplain hne).lexesTo rfl hline

end Sys2Proof.Machine

namespace Sys2Proof.Proofs
open Sys2Proof.Machine

/-! ### The obligations -/

/-- Settles O1. -/
theorem decodeEncodeRoundTrip : Obligations.DecodeEncodeRoundTrip :=
  fun _ => decode_encode

/-- Settles O2. -/
theorem encodeDecodeClearsIgnoredBits : Obligations.EncodeDecodeClearsIgnoredBits := encode_decode

/-- Settles O3: both words encode back to the used bits they share. -/
theorem ignoredBitsHaveNoEffect : Obligations.IgnoredBitsHaveNoEffect :=
  fun _ _ => decode_eq_of_and_usedBits_eq

/-- Settles O4: what a row fixes of OP and M, the decoder reads. -/
theorem everyWordHasExactlyOneRow : Obligations.EveryWordHasExactlyOneRow :=
  fun w => ⟨row_decode_covers w, fun _ => row_eq_of_covers⟩

/-- Settles O5. -/
theorem decodedInstructionsAreWellFormed : Obligations.DecodedInstructionsAreWellFormed := decode_wellFormed

/-- Settles O6: closed words, each decoded by evaluation. -/
theorem writtenWordsDecode : Obligations.WrittenWordsDecode := by
  unfold Obligations.WrittenWordsDecode
  decide

/-- Settles O23, command by command. -/
theorem responsesOfEachCommand : Obligations.ResponsesOfEachCommand := by
  intro i s t h
  have hnone (ht : t.responses = s.responses) : ∃ rs, t.responses = s.responses ++ rs ∧ rs.length = 0 :=
    ⟨[], by simpa using ht, rfl⟩
  have hone (ht : ∃ r, t.responses = s.responses ++ [r]) :
      ∃ rs, t.responses = s.responses ++ rs ∧ rs.length = 1 := by
    obtain ⟨r, hr⟩ := ht
    exact ⟨[r], hr, rfl⟩
  cases i with
  | feed b => exact hnone (execFeed_responses h)
  | setmode m => exact hnone (execSetmode_responses h)
  | decode =>
    obtain ⟨-, rfl⟩ := execDecode_next h
    exact hone ⟨_, rfl⟩
  | rrcheck b0 b1 b2 => exact hone (execRrcheck_responses h)
  | status =>
    obtain ⟨-, rfl⟩ := execStatus_next h
    exact hone ⟨_, rfl⟩
  | rstf | reservedMode | reservedOp0 | reservedOp7 | reservedHigh op =>
    cases h
    exact hnone rfl

/-- Settles O36: the third byte is the CRC of the two bytes of the distance, which read back as the distance. -/
theorem rrcheckAcceptsItsFrame : Obligations.RrcheckAcceptsItsFrame := by
  intro d b0 b1 b2 s hframe
  obtain ⟨rfl, rfl, rfl⟩ : hiByte d = b0 ∧ loByte d = b1 ∧ crc8 s.rom [hiByte d, loByte d] = b2 := by
    simpa [rrFrame] using hframe
  have hexec := execRrcheck_of_crc (s := s) (b0 := hiByte d) (b1 := loByte d) rfl
  rw [dist16_bytes] at hexec
  exact hexec

/-- Settles O48: the frame is its body, marker and data bytes, followed by the CRC of the body. -/
theorem streamFrameLayout : Obligations.StreamFrameLayout := by
  intro rom m ds hlen
  have hbody := streamBody_length hlen
  obtain ⟨hpos, -⟩ := frameLen_bounds m
  refine ⟨?_, rfl, fun j hj => ?_, ?_⟩
  · rw [streamFrame_eq, List.length_append, hbody, List.length_singleton]
    omega
  · obtain ⟨hhi, hlo⟩ := dataBytes_getElem? ds j hj
    have hbytes := dataBytes_length ds
    rw [Nat.add_comm 1, streamFrame_getElem?_of_lt rom (by omega), show 2 + 2 * j = (2 * j + 1) + 1 by omega,
      streamFrame_getElem?_of_lt rom (by omega)]
    exact ⟨hhi, hlo⟩
  · rw [streamFrame_eq, ← hbody, List.take_left, List.getElem?_concat_length]

/-- Settles O57: the bytes of a frame in order, with the checksum over the configured table. -/
theorem pseudoInstructionsExpand : Obligations.PseudoInstructionsExpand :=
  fun _ _ _ _ _ _ _ => ⟨rfl, rfl, rfl, rfl, rfl⟩

/-- Settles O58: each row's text lexes to its mnemonic and operands, which name the command. -/
theorem assemblerWords : Obligations.AssemblerWords := by
  refine ⟨fun _ _ ht => feed_assemblesTo ht, mnemonic_assemblesTo (by decide) (by decide) rfl,
    mnemonic_assemblesTo (by decide) (by decide) rfl,
    fun m hm => ⟨modeSpellings_ne_nil m hm, fun _ ht => setmode_assemblesTo ht⟩, ?_,
    mnemonic_assemblesTo (by decide) (by decide) rfl⟩
  intro b0 b1 b2 t0 h0 t1 h1 t2 h2 sep hsep
  have htext : "RRCHECK ".toList ++ t0 ++ sep ++ t1 ++ sep ++ t2 =
      "RRCHECK".toList ++ ' ' :: (t0 ++ (sep ++ (t1 ++ (sep ++ t2)))) := by
    simp only [List.append_assoc]
    rfl
  rw [htext]
  exact rrcheck_assemblesTo h0 h1 h2 hsep

end Sys2Proof.Proofs

/-! PROOFS. The statements of 40_crc8.md: the two forms of the update, the default table, the linearity of the allowed
tables, and the detection of a flipped bit by the frame check and by DECODE. -/

namespace Sys2Proof.Machine

/-! ### A byte as a polynomial over GF(2)

The two table forms read a byte's bits in opposite orders. In the order of its own form one turn of the generator loop
multiplies by x modulo x^8 + p, so what follows is said of both forms at once. -/

/-- The coefficient of x^i in the polynomial that `c` stands for in a table form. -/
def coeff : TableForm → Byte → Nat → Bool
  | .msbFirst, c, i => c.getLsbD i
  | .reflected, c, i => c.getMsbD i

theorem eq_of_coeff_eq {form : TableForm} {a b : Byte} (h : ∀ i < 8, coeff form a i = coeff form b i) : a = b := by
  cases form with
  | msbFirst => exact BitVec.eq_of_getLsbD_eq h
  | reflected => exact BitVec.eq_of_getMsbD_eq h

@[simp] theorem coeff_zero (form : TableForm) (i : Nat) : coeff form 0#8 i = false := by
  cases form <;> simp [coeff]

@[simp] theorem coeff_xor (form : TableForm) (a b : Byte) (i : Nat) :
    coeff form (a ^^^ b) i = (coeff form a i ^^ coeff form b i) := by
  cases form <;> simp [coeff]

theorem exists_coeff_of_ne_zero (form : TableForm) {c : Byte} (hc : c ≠ 0#8) : ∃ i < 8, coeff form c i = true := by
  by_contra! h
  exact hc (eq_of_coeff_eq (form := form) fun i hi => by simpa using h i hi)

/-- One turn of the loop: every coefficient moves up by one, and `p` is added where x^8 comes up. -/
theorem coeff_tableShift (form : TableForm) (p c : Byte) {i : Nat} (hi : i < 8) :
    coeff form (tableShift form p c) i =
      ((!decide (i = 0) && coeff form c (i - 1)) ^^ (coeff form c 7 && coeff form p i)) := by
  cases form with
  | msbFirst =>
    simp only [coeff, tableShift, msbShift]
    split <;> simp [*, -BitVec.getLsbD_eq_getElem]
  | reflected =>
    have htop : c.getMsbD 7 = c.getLsbD 0 := by simp [BitVec.getMsbD_eq_getLsbD]
    simp only [coeff, tableShift, lsbShift, htop]
    split <;> simp [*, BitVec.getMsbD_ushiftRight, -BitVec.getLsbD_eq_getElem]

theorem tableShift_xor (form : TableForm) (p a b : Byte) :
    tableShift form p (a ^^^ b) = tableShift form p a ^^^ tableShift form p b := by
  refine eq_of_coeff_eq (form := form) fun i hi => ?_
  simp only [coeff_xor, coeff_tableShift form p _ hi]
  grind

/-! ### The bytes that no number of turns makes zero

Where x divides p the loop is not injective, so a nonzero byte may reach 0 (0xC0 under 0x80). A power of x does not: it
climbs to x^8 = p, and from there on the byte stays a multiple of the largest power of x in p. -/

/-- `c` is x^k in the given form. -/
def IsPower (form : TableForm) (c : Byte) (k : Nat) : Prop := ∀ i < 8, coeff form c i = decide (i = k)

/-- `c` is not zero, and the largest power of x that divides `p` divides it. -/
def IsMultipleOfPowerIn (form : TableForm) (p c : Byte) : Prop :=
  c ≠ 0#8 ∧ ∀ i < 8, (∀ j ≤ i, coeff form p j = false) → coeff form c i = false

/-- The invariant of the loop from a power of x. -/
def StaysNonzero (form : TableForm) (p c : Byte) : Prop :=
  (∃ k < 8, IsPower form c k) ∨ IsMultipleOfPowerIn form p c

theorem isPower_bit (form : TableForm) {k : Nat} (hk : k < 8) : ∃ j < 8, IsPower form (1#8 <<< k) j := by
  have hbit (i : Nat) : (1#8 <<< k).getLsbD i = decide (k = i) := by
    rw [← BitVec.twoPow_eq, BitVec.getLsbD_twoPow]
    simp [hk]
  cases form with
  | msbFirst => exact ⟨k, hk, fun i _ => by simp [coeff, hbit, eq_comm]⟩
  | reflected =>
    refine ⟨7 - k, by omega, fun i hi => ?_⟩
    simp only [coeff, BitVec.getMsbD_eq_getLsbD, hbit, hi]
    grind

section Turns
variable {form : TableForm} {p c : Byte}

theorem IsPower.ne_zero {k : Nat} (hk : k < 8) (h : IsPower form c k) : c ≠ 0#8 := by
  rintro rfl
  simpa using h k hk

theorem IsPower.tableShift_of_lt {k : Nat} (hk : k < 7) (h : IsPower form c k) :
    IsPower form (tableShift form p c) (k + 1) := by
  intro i hi
  rw [coeff_tableShift form p c hi, h 7 (by omega), h (i - 1) (by omega)]
  grind

theorem IsPower.tableShift_seven (h : IsPower form c 7) : tableShift form p c = p := by
  refine eq_of_coeff_eq (form := form) fun i hi => ?_
  rw [coeff_tableShift form p c hi, h 7 (by omega), h (i - 1) (by omega)]
  grind

theorem IsMultipleOfPowerIn.ne_zero (h : IsMultipleOfPowerIn form p c) : c ≠ 0#8 := And.left h

theorem isMultipleOfPowerIn_self (hp : p ≠ 0#8) : IsMultipleOfPowerIn form p p :=
  ⟨hp, fun i _ h => h i le_rfl⟩

/-- Were the turn to give zero, `c` would be x^7 + p / x, whose lowest coefficient is one place below that of `p`. -/
theorem IsMultipleOfPowerIn.tableShift_ne_zero (hp : p ≠ 0#8) (h : IsMultipleOfPowerIn form p c) :
    tableShift form p c ≠ 0#8 := by
  obtain ⟨hc, hlow⟩ := h
  intro hzero
  have hshift (i : Nat) (hi : i < 8) :
      ((!decide (i = 0) && coeff form c (i - 1)) ^^ (coeff form c 7 && coeff form p i)) = false := by
    rw [← coeff_tableShift form p c hi, hzero, coeff_zero]
  cases htop : coeff form c 7 with
  | false =>
    obtain ⟨i, hi, hci⟩ := exists_coeff_of_ne_zero form hc
    have hne : i ≠ 7 := by rintro rfl; simp [htop] at hci
    simpa [htop, hci] using hshift (i + 1) (by omega)
  | true =>
    have hex := exists_coeff_of_ne_zero form hp
    obtain ⟨hz, hpz⟩ := Nat.find_spec hex
    have hmin (j : Nat) (hj : j < Nat.find hex) : coeff form p j = false := by
      simpa [hj.trans hz] using Nat.find_min hex hj
    have hprev := hshift _ hz
    have hbelow (hne : Nat.find hex ≠ 0) : coeff form c (Nat.find hex - 1) = false :=
      hlow _ (by omega) fun j hj => hmin j (by omega)
    grind

theorem IsMultipleOfPowerIn.tableShift (hp : p ≠ 0#8) (h : IsMultipleOfPowerIn form p c) :
    IsMultipleOfPowerIn form p (tableShift form p c) := by
  have hne := h.tableShift_ne_zero hp
  obtain ⟨-, hdiv⟩ := h
  refine ⟨hne, fun i hi hlow => ?_⟩
  have hprev := hdiv (i - 1) (by omega) fun j hj => hlow j (by omega)
  rw [coeff_tableShift form p c hi, hprev, hlow i le_rfl]
  simp

theorem StaysNonzero.ne_zero (h : StaysNonzero form p c) : c ≠ 0#8 := by
  obtain ⟨k, hk, hpow⟩ | hmul := h
  · exact hpow.ne_zero hk
  · exact hmul.ne_zero

theorem StaysNonzero.tableShift (hp : p ≠ 0#8) (h : StaysNonzero form p c) :
    StaysNonzero form p (tableShift form p c) := by
  obtain ⟨k, hk, hpow⟩ | hmul := h
  · obtain hlt | rfl : k < 7 ∨ k = 7 := by omega
    · exact .inl ⟨k + 1, by omega, hpow.tableShift_of_lt hlt⟩
    · rw [hpow.tableShift_seven]
      exact .inr (isMultipleOfPowerIn_self hp)
  · exact .inr (hmul.tableShift hp)

end Turns

/-! ### The generated tables (R86) -/

theorem romAt_crcTable (form : TableForm) (p i : Byte) : romAt (crcTable form p) i = tableEntry form p i := by
  simp [romAt, crcTable]

theorem romAt_xor {rom : Rom} (h : IsCrcTable rom) (a b : Byte) :
    romAt rom (a ^^^ b) = romAt rom a ^^^ romAt rom b := by
  obtain ⟨form, p, -, rfl⟩ := h
  simp only [romAt_crcTable]
  exact Function.Semiconj₂.iterate (tableShift_xor form p) 8 a b

theorem romAt_zero {rom : Rom} (h : IsCrcTable rom) : romAt rom 0#8 = 0#8 := by
  simpa using romAt_xor h 0#8 0#8

/-- A flipped bit that `n` further bytes are read after is still seen. -/
theorem iterate_romAt_bit_ne_zero {rom : Rom} (h : IsCrcTable rom) {k : Nat} (hk : k < 8) (n : Nat) :
    (romAt rom)^[n] (1#8 <<< k) ≠ 0#8 := by
  obtain ⟨form, p, hp, rfl⟩ := h
  have hentry (c : Byte) (hc : StaysNonzero form p c) : StaysNonzero form p (romAt (crcTable form p) c) := by
    rw [romAt_crcTable]
    exact Function.Iterate.rec (StaysNonzero form p) hc (fun _ => StaysNonzero.tableShift hp) 8
  exact (Function.Iterate.rec (StaysNonzero form p) (.inl (isPower_bit form hk)) hentry n).ne_zero

/-! ### The CRC of a sequence (R80 to R83) -/

@[simp] theorem crc8_nil (rom : Rom) : crc8 rom [] = 0x00#8 := rfl

theorem crc8_concat (rom : Rom) (s : List Byte) (b : Byte) : crc8 rom (s ++ [b]) = romAt rom (crc8 rom s ^^^ b) := by
  simp [crc8, crcUpdate]

theorem crcUpdateLiteral_eq (rom : Rom) (crc b : Byte) : crcUpdateLiteral rom crc b = crcUpdate rom crc b := by
  have hmask : (crc ^^^ b) &&& 0xFF#8 = crc ^^^ b := BitVec.and_allOnes
  have hlow : (crc.setWidth 16 <<< 8).setWidth 8 = 0#8 := by
    apply BitVec.eq_of_getLsbD_eq
    simp
  have hbyte : (0x00FF#16).setWidth 8 = BitVec.allOnes 8 := rfl
  rw [crcUpdateLiteral, hmask, BitVec.setWidth_and, BitVec.setWidth_xor, hlow, hbyte, BitVec.and_allOnes,
    BitVec.xor_zero, BitVec.setWidth_setWidth_of_le _ (by decide), BitVec.setWidth_eq, crcUpdate]

section Linear
variable {rom : Rom} (h : IsCrcTable rom)
include h

theorem crcUpdate_xor (a a' b b' : Byte) :
    crcUpdate rom (a ^^^ a') (b ^^^ b') = crcUpdate rom a b ^^^ crcUpdate rom a' b' := by
  rw [crcUpdate, crcUpdate, crcUpdate, ← romAt_xor h]
  congr 1
  ac_rfl

theorem foldl_crcUpdate_zipWith_xor (s : List Byte) : ∀ (t : List Byte) (a b : Byte), s.length = t.length →
    (List.zipWith (· ^^^ ·) s t).foldl (crcUpdate rom) (a ^^^ b) =
      s.foldl (crcUpdate rom) a ^^^ t.foldl (crcUpdate rom) b := by
  induction s with
  | nil =>
    intro t a b hlen
    simp [List.length_eq_zero_iff.mp hlen.symm]
  | cons x s ih =>
    intro t a b hlen
    cases t with
    | nil => simp at hlen
    | cons y t =>
      simp only [List.zipWith_cons_cons, List.foldl_cons, crcUpdate_xor h]
      exact ih t _ _ (by simpa using hlen)

/-- A difference `d` in the running CRC goes through one table look-up for each byte read after it. -/
theorem foldl_crcUpdate_xor (s : List Byte) : ∀ a d : Byte,
    s.foldl (crcUpdate rom) (a ^^^ d) = s.foldl (crcUpdate rom) a ^^^ (romAt rom)^[s.length] d := by
  induction s with
  | nil => intro a d; rfl
  | cons b s ih =>
    intro a d
    have hstep : crcUpdate rom (a ^^^ d) b = crcUpdate rom a b ^^^ romAt rom d := by
      simpa [crcUpdate] using crcUpdate_xor h a d b 0#8
    rw [List.foldl_cons, hstep, ih, List.foldl_cons, List.length_cons, Function.iterate_succ_apply]

theorem crc8_xor_middle (s t : List Byte) (b d : Byte) :
    crc8 rom (s ++ (b ^^^ d) :: t) = crc8 rom (s ++ b :: t) ^^^ (romAt rom)^[t.length + 1] d := by
  have hstep : crcUpdate rom (crc8 rom s) (b ^^^ d) = crcUpdate rom (crc8 rom s) b ^^^ romAt rom d := by
    simpa [crcUpdate] using crcUpdate_xor h (crc8 rom s) 0#8 b d
  simp only [crc8, List.foldl_append, List.foldl_cons] at hstep ⊢
  rw [hstep, foldl_crcUpdate_xor h, Function.iterate_succ_apply]

theorem crc8_set_xor_bit_ne (s : List Byte) {i k : Nat} (hi : i < s.length) (hk : k < 8) :
    crc8 rom (s.set i (s[i] ^^^ (1#8 <<< k))) ≠ crc8 rom s := by
  have hs : s = s.take i ++ s[i] :: s.drop (i + 1) := by simp
  have hset : s.set i (s[i] ^^^ (1#8 <<< k)) = s.take i ++ (s[i] ^^^ (1#8 <<< k)) :: s.drop (i + 1) := by
    rw [List.set_eq_take_append_cons_drop, if_pos hi]
  rw [hset, crc8_xor_middle h, ← hs]
  simpa using iterate_romAt_bit_ne_zero h hk (s.length - (i + 1) + 1)

end Linear

/-! ### The frame check (R63, R87) -/

theorem crcOk_concat (rom : Rom) (s : List Byte) (c : Byte) : crcOk rom (s ++ [c]) = (crc8 rom s == c) := by
  simp [crcOk]

theorem exists_concat_of_crcOk {rom : Rom} {f : List Byte} (hok : crcOk rom f = true) :
    ∃ s c, f = s ++ [c] ∧ crc8 rom s = c := by
  obtain rfl | ⟨s, c, rfl⟩ := f.eq_nil_or_concat
  · simp [crcOk] at hok
  · rw [List.concat_eq_append, crcOk_concat, beq_iff_eq] at hok
    exact ⟨s, c, List.concat_eq_append, hok⟩

/-- R88: a flip in the last byte leaves the computed CRC and changes the stored one; any other changes the computed. -/
theorem crcOk_set_xor_bit {rom : Rom} (h : IsCrcTable rom) {f : List Byte} {i k : Nat} (hi : i < f.length) (hk : k < 8)
    (hok : crcOk rom f = true) : crcOk rom (f.set i (f[i] ^^^ (1#8 <<< k))) = false := by
  obtain ⟨s, c, rfl, hcrc⟩ := exists_concat_of_crcOk hok
  obtain hlt | rfl : i < s.length ∨ i = s.length := by simp at hi; omega
  · rw [List.getElem_append_left hlt, List.set_append_left _ _ hlt, crcOk_concat, beq_eq_false_iff_ne, ← hcrc]
    exact crc8_set_xor_bit_ne h s hlt hk
  · have hbit : 1#8 <<< k ≠ 0#8 := iterate_romAt_bit_ne_zero h hk 0
    have hlast : c ^^^ (1#8 <<< k) ≠ c := by simpa using hbit
    simpa [crcOk_concat, hcrc] using hlast.symm

/-! ### The default table (R84) -/

/-- The listing row by row. -/
theorem romRows_eq : [romRow0, romRow1, romRow2, romRow3, romRow4, romRow5, romRow6, romRow7, romRow8, romRow9, romRowA,
    romRowB, romRowC, romRowD, romRowE, romRowF] = (List.range 16).map fun r => (List.range 16).map fun i =>
      tableEntry .msbFirst 0x07#8 (BitVec.ofNat 8 (16 * r + i)) := by decide

theorem range_mul (n m : Nat) :
    List.range (n * m) = (List.range m).flatMap fun r => (List.range n).map (n * r + ·) := by
  induction m with
  | zero => rfl
  | succ m ih => rw [Nat.mul_succ, List.range_add, ih, List.range_succ, List.flatMap_append, List.flatMap_singleton]

theorem defaultRomList_eq_map :
    defaultRomList = (List.range 256).map fun i => tableEntry .msbFirst 0x07#8 (BitVec.ofNat 8 i) := by
  calc defaultRomList
    _ = List.flatten [romRow0, romRow1, romRow2, romRow3, romRow4, romRow5, romRow6, romRow7, romRow8, romRow9, romRowA,
          romRowB, romRowC, romRowD, romRowE, romRowF] := by simp [defaultRomList]
    _ = (List.range (16 * 16)).map fun i => tableEntry .msbFirst 0x07#8 (BitVec.ofNat 8 i) := by
      rw [romRows_eq, range_mul, List.map_flatMap, List.flatMap_def]
      simp only [List.map_map, Function.comp_def]

theorem defaultRom_eq_crcTable : defaultRom = crcTable .msbFirst 0x07#8 := by
  simp only [defaultRom, crcTable, defaultRomList_eq_map]

theorem isCrcTable_defaultRom : IsCrcTable defaultRom := ⟨.msbFirst, 0x07#8, by decide, defaultRom_eq_crcTable⟩

/-! ### DECODE of a frame that fails the check (R123) -/

theorem exec_decode_of_crcOk_false {s : State} (hlen : s.fill.toNat ∈ accept s.mode)
    (hcrc : crcOk s.rom (frame s) = false) :
    exec .decode s = .next (observe (respond (clearFrame s)
      (.sample (BitVec.ofNat 3 (channels s.mode)) 0#64)) .checksumMismatch) := by
  have hattempt : decodeAttempt s = (.checksumMismatch, sentinels (channels s.mode)) := by
    simp [decodeAttempt, hlen, hcrc]
  rw [exec_decode_of_le (accept_le_cap hlen), hattempt, sampleResponse_sentinels]

theorem frame_set_buf {s : State} {i : Nat} (hi : i < 10) (b : Byte) :
    frame { s with buf := s.buf.set i b } = (frame s).set i b := by
  simp only [frame, Vector.toList_set, List.take_set]

end Sys2Proof.Machine

namespace Sys2Proof.Proofs
open Sys2Proof.Machine

/-! ### The obligations -/

/-- Settles O41: the mask by 0xFF and the shifted old value leave no trace in the low byte. -/
theorem crcUpdateSimplifies : Obligations.CrcUpdateSimplifies := crcUpdateLiteral_eq

/-- Settles O42. -/
theorem crcEmptyAndAppend : Obligations.CrcEmptyAndAppend :=
  fun rom s b => ⟨crc8_nil rom, rfl, crc8_concat rom s b⟩

/-- Settles O43: each row of the listing, by evaluation, is its part of the generated table. -/
theorem defaultTableIsGenerated : Obligations.DefaultTableIsGenerated := defaultRom_eq_crcTable

/-- Settles O44: a generated table is additive, and so is the fold over it. -/
theorem allowedTablesAreLinear : Obligations.AllowedTablesAreLinear :=
  fun _ h => ⟨romAt_zero h, fun s t hlen => foldl_crcUpdate_zipWith_xor h s t crcInit crcInit hlen⟩

/-- Settles O45. -/
theorem singleBitFlipIsDetected : Obligations.SingleBitFlipIsDetected :=
  fun _ _ _ _ hi h hk hok => crcOk_set_xor_bit h hi hk hok

/-- Settles O46: closed sequences, each evaluated over the listed table. -/
theorem crcWorkedValues : Obligations.CrcWorkedValues := by
  unfold Obligations.CrcWorkedValues
  decide

/-- Settles O34: the flipped buffer holds the flipped frame, of the same accepted length, which fails the check. -/
theorem decodeRejectsSingleBitFlip : Obligations.DecodeRejectsSingleBitFlip := by
  intro s i k hi hrom hlen hok hlt hk
  have hiframe : i < (frame s).length := by rwa [frame_length_of_le (accept_le_cap hlen)]
  have hbyte : (frame s)[i] = s.buf[i] := by simp [frame]
  have hflip : crcOk s.rom (frame { s with buf := s.buf.set i (s.buf[i] ^^^ (1#8 <<< k)) }) = false := by
    rw [frame_set_buf hi, ← hbyte]
    exact crcOk_set_xor_bit (hrom ▸ isCrcTable_defaultRom) hiframe hk hok
  exact ⟨_, exec_decode_of_crcOk_false hlen hflip, rfl, rfl, rfl⟩

end Sys2Proof.Proofs

/-! PROOFS. The statements of 41_stream_feed.md: FEED in HUNT, inside a frame and into a full buffer, the transition table
of the frame-boundary phases, and marker-free garbage. -/

namespace Sys2Proof.Machine

/-! ### FEED by the three cases of R101, as next states -/

/-- The byte goes to the cell FILL and to no other. -/
theorem storeByte_getElem {b : Byte} {s : State} {j : Nat} (hj : j < 10) :
    (storeByte b s).buf[j] = if j = s.fill.toNat then b else s.buf[j] := by
  split
  · subst j
    exact writeCell_getElem_self b hj
  · exact storeByte_getElem_ne hj (Ne.symm ‹_›)

/-- R102: the first byte of a frame goes to `BUF[0]`. -/
theorem storeByte_of_fill_zero {b : Byte} {s : State} (h0 : s.fill = 0#4) :
    storeByte b s = { s with fill := 1#4, buf := s.buf.set 0 b } := by
  have hcell : s.buf.setIfInBounds 0 b = s.buf.set 0 b := by
    ext j hj
    simp [Vector.getElem_setIfInBounds, Vector.getElem_set]
  simp [storeByte, setFill, writeCell, h0, hcell]

theorem exec_feed_hunt_marker {s : State} (h0 : s.fill = 0#4) :
    exec (.feed marker) s = .next (observe (storeByte marker s) .frameStart) := by
  rw [exec_feed_of_le (by simp [h0]), feedByte_marker h0]

theorem exec_feed_hunt_discard {b : Byte} {s : State} (h0 : s.fill = 0#4) (hb : b ≠ marker) :
    exec (.feed b) s = .next (observe s .discarded) := by
  rw [exec_feed_of_le (by simp [h0]), feedByte_discard h0 hb]

theorem exec_feed_append {b : Byte} {s : State} (h0 : 0 < s.fill.toNat) (h1 : s.fill.toNat < cap) :
    exec (.feed b) s = .next (observe (storeByte b s) .appended) := by
  have hne : s.fill ≠ 0#4 := fun hz => by simp [hz] at h0
  rw [exec_feed_of_le h1.le, feedByte_append hne h1]

theorem exec_feed_full {b : Byte} {s : State} (h : s.fill = 10#4) :
    exec (.feed b) s = .next (feedOverrun s) := by
  rw [exec_feed_of_le (by simp [h, cap]), feedByte_full (by simp [h]) (by simp [h, cap])]

theorem feedOverrun_of_hold {s : State} (h : s.params.overrun = .hold) :
    feedOverrun s = observe s .bufferOverrun := by
  simp [feedOverrun, h]

theorem feedOverrun_of_restart {s : State} (h : s.params.overrun = .restart) :
    feedOverrun s = observe (clearFrame s) .bufferOverrun := by
  simp [feedOverrun, h, clearFrame]

/-! ### The phases (R30): what each one says of FILL -/

/-- The frame lengths are even, so one byte over a short frame does not fill the buffer. -/
theorem frameLen_add_one_lt_cap {m : Mode} (h : frameLen m < cap) : frameLen m + 1 < cap := by
  revert h
  cases m <;> decide

section Phases

variable {s t : State}

theorem fill_eq_zero_iff : s.fill = 0#4 ↔ s.fill.toNat = 0 := BitVec.toNat_eq

theorem fill_eq_ten (h : s.fill.toNat = cap) : s.fill = 10#4 := BitVec.eq_of_toNat_eq h

/-- The phase reads FILL and MODE alone. -/
theorem phase_congr (hfill : t.fill = s.fill) (hmode : t.mode = s.mode) : phase t = phase s := by
  simp only [phase, hfill, hmode]

theorem phase_eq_hunt_iff : phase s = .hunt ↔ s.fill = 0#4 := by
  unfold phase
  split_ifs <;> simp_all

theorem phase_eq_filling_iff : phase s = .filling ↔ 0 < s.fill.toNat ∧ s.fill.toNat < frameLen s.mode := by
  simp only [phase, fill_eq_zero_iff]
  split_ifs <;> simp <;> omega

theorem phase_eq_complete_iff : phase s = .complete ↔ s.fill.toNat = frameLen s.mode := by
  have hlen := frameLen_bounds s.mode
  simp only [phase, fill_eq_zero_iff]
  split_ifs <;> simp <;> omega

theorem phase_eq_overfill_iff : phase s = .overfill ↔ frameLen s.mode < s.fill.toNat ∧ s.fill.toNat < cap := by
  simp only [phase, fill_eq_zero_iff]
  split_ifs <;> simp <;> omega

theorem phase_eq_full_iff : phase s = .full ↔ frameLen s.mode < s.fill.toNat ∧ cap ≤ s.fill.toNat := by
  have hlen := frameLen_bounds s.mode
  simp only [phase, fill_eq_zero_iff]
  split_ifs <;> simp <;> omega

end Phases

/-! ### The transitions of FEED (R107), by what the byte meets -/

section Feed

variable (b : Byte) {s : State}

/-- Below the frame length the byte brings the frame one nearer to completion. -/
theorem phase_storeByte_of_lt_frameLen (h : s.fill.toNat < frameLen s.mode) :
    phase (storeByte b s) = if s.fill.toNat + 1 = frameLen s.mode then .complete else .filling := by
  have hlen := frameLen_bounds s.mode
  have hfill := storeByte_fill_toNat (b := b) (s := s) (by omega)
  have hmode : (storeByte b s).mode = s.mode := rfl
  split
  · rw [phase_eq_complete_iff, hfill, hmode]
    assumption
  · rw [phase_eq_filling_iff, hfill, hmode]
    omega

/-- No frame has fewer than four bytes, so the marker alone does not complete one. -/
theorem phase_storeByte_of_fill_zero (h0 : s.fill = 0#4) : phase (storeByte b s) = .filling := by
  have hlen := frameLen_bounds s.mode
  have hzero : s.fill.toNat = 0 := fill_eq_zero_iff.mp h0
  rw [phase_storeByte_of_lt_frameLen b (by omega), if_neg (by omega)]

/-- From the frame length on the byte is one too many. -/
theorem phase_storeByte_of_frameLen_le (h : frameLen s.mode ≤ s.fill.toNat) (hlt : s.fill.toNat < cap) :
    phase (storeByte b s) = if s.fill.toNat + 1 = cap then .full else .overfill := by
  have hfill := storeByte_fill_toNat (b := b) hlt
  have hmode : (storeByte b s).mode = s.mode := rfl
  split
  · rw [phase_eq_full_iff, hfill, hmode]
    omega
  · rw [phase_eq_overfill_iff, hfill, hmode]
    omega

/-- A dropped byte leaves FILL and the phase under HOLD, and starts the hunt for the next frame under RESTART (R104). -/
theorem feedOverrun_phase (h : s.fill = 10#4) :
    if s.params.overrun = .hold then (feedOverrun s).fill = 10#4 ∧ phase (feedOverrun s) = phase s
    else (feedOverrun s).fill = 0#4 ∧ phase (feedOverrun s) = .hunt := by
  cases hp : s.params.overrun with
  | hold =>
    rw [feedOverrun_of_hold hp]
    exact ⟨h, rfl⟩
  | restart =>
    rw [feedOverrun_of_restart hp]
    exact ⟨rfl, phase_eq_hunt_iff.mpr rfl⟩

/-! One lemma for each row of R107's table, by the phase in which FEED meets the block. -/

theorem feed_of_hunt (hp : phase s = .hunt) :
    ∃ t, exec (.feed b) s = .next t ∧
      if b = marker then t.fill = 1#4 ∧ phase t = .filling else t.fill = 0#4 ∧ phase t = .hunt := by
  have h0 := phase_eq_hunt_iff.mp hp
  by_cases hb : b = marker
  · subst hb
    refine ⟨_, exec_feed_hunt_marker h0, ?_⟩
    rw [if_pos rfl]
    exact ⟨congrArg State.fill (storeByte_of_fill_zero (b := marker) h0), phase_storeByte_of_fill_zero marker h0⟩
  · refine ⟨_, exec_feed_hunt_discard h0 hb, ?_⟩
    rw [if_neg hb]
    exact ⟨h0, hp⟩

theorem feed_of_filling (hp : phase s = .filling) :
    ∃ t, exec (.feed b) s = .next t ∧ t.fill.toNat = s.fill.toNat + 1 ∧
      phase t = if s.fill.toNat + 1 = frameLen s.mode then .complete else .filling := by
  obtain ⟨h0, hlt⟩ := phase_eq_filling_iff.mp hp
  have hlen := frameLen_bounds s.mode
  have hcap : s.fill.toNat < cap := by omega
  exact ⟨_, exec_feed_append h0 hcap, storeByte_fill_toNat (b := b) hcap, phase_storeByte_of_lt_frameLen b hlt⟩

/-- In 4-channel mode the complete frame fills the buffer. -/
theorem feed_of_complete (hp : phase s = .complete) :
    ∃ t, exec (.feed b) s = .next t ∧
      if frameLen s.mode < cap then t.fill.toNat = s.fill.toNat + 1 ∧ phase t = .overfill
      else if s.params.overrun = .hold then t.fill = 10#4 ∧ phase t = .complete
      else t.fill = 0#4 ∧ phase t = .hunt := by
  have hfill := phase_eq_complete_iff.mp hp
  have hlen := frameLen_bounds s.mode
  by_cases hlt : frameLen s.mode < cap
  · have hroom := frameLen_add_one_lt_cap hlt
    have hcap : s.fill.toNat < cap := by omega
    refine ⟨_, exec_feed_append (by omega) hcap, ?_⟩
    rw [if_pos hlt]
    exact ⟨storeByte_fill_toNat (b := b) hcap,
      (phase_storeByte_of_frameLen_le b hfill.ge hcap).trans (if_neg (by omega))⟩
  · have hten : s.fill = 10#4 := fill_eq_ten (by omega)
    refine ⟨_, exec_feed_full hten, ?_⟩
    rw [if_neg hlt, ← hp]
    exact feedOverrun_phase hten

theorem feed_of_overfill (hp : phase s = .overfill) :
    ∃ t, exec (.feed b) s = .next t ∧ t.fill.toNat = s.fill.toNat + 1 ∧
      phase t = if s.fill.toNat + 1 = cap then .full else .overfill := by
  obtain ⟨hgt, hlt⟩ := phase_eq_overfill_iff.mp hp
  exact ⟨_, exec_feed_append (by omega) hlt, storeByte_fill_toNat (b := b) hlt,
    phase_storeByte_of_frameLen_le b hgt.le hlt⟩

theorem feed_of_full (hle : s.fill.toNat ≤ cap) (hp : phase s = .full) :
    ∃ t, exec (.feed b) s = .next t ∧
      if s.params.overrun = .hold then t.fill = 10#4 ∧ phase t = .full else t.fill = 0#4 ∧ phase t = .hunt := by
  obtain ⟨-, hge⟩ := phase_eq_full_iff.mp hp
  have hten : s.fill = 10#4 := fill_eq_ten (by omega)
  refine ⟨_, exec_feed_full hten, ?_⟩
  rw [← hp]
  exact feedOverrun_phase hten

end Feed

/-! ### The transitions of the other commands (R107) -/

theorem execRrcheck_keeps_phase {b0 b1 b2 : Byte} {s t : State} (h : execRrcheck b0 b1 b2 s = .next t) :
    t.fill = s.fill ∧ phase t = phase s := by
  obtain ⟨r, o, h', -⟩ := execRrcheck_next b0 b1 b2 s
  rw [h'] at h
  cases h
  exact ⟨rfl, phase_congr rfl rfl⟩

theorem execSetmode_phase {m : BitVec 2} {s t : State} (h : execSetmode m s = .next t) :
    if m = 3#2 then t.fill = s.fill ∧ phase t = phase s
    else t.fill = 0#4 ∧ phase t = .hunt ∧ modeCode t.mode = m := by
  obtain ⟨mode, hm, h'⟩ | ⟨hm, h'⟩ := execSetmode_cases m s <;> rw [h'] at h <;> cases h
  · have hcode := modeCode_of_modeOfCode hm
    rw [if_neg (hcode ▸ modeCode_ne mode)]
    exact ⟨rfl, phase_eq_hunt_iff.mpr rfl, hcode⟩
  · have hm3 : m = 3#2 := by
      by_contra hne
      obtain ⟨mode, hmode, -⟩ := modeOfCode_of_ne hne
      simp [hm] at hmode
    rw [if_pos hm3]
    exact ⟨rfl, phase_congr rfl rfl⟩

/-! ### Marker-free garbage (R108, R199) -/

/-- In HUNT each byte but the marker leaves its label and nothing else, so the next one meets HUNT again. -/
theorem execAll_feed_garbage (bs : List Byte) {s : State} (h0 : s.fill = 0#4) (hbs : ∀ b ∈ bs, b ≠ marker) :
    execAll (bs.map .feed) s =
      .next { s with outcomes := s.outcomes ++ List.replicate bs.length .discarded } := by
  induction bs generalizing s with
  | nil => simp [execAll]
  | cons b bs ih =>
    obtain ⟨hb, hbs⟩ := List.forall_mem_cons.mp hbs
    have hrest := ih (s := observe s .discarded) h0 hbs
    rw [List.map_cons, execAll_cons_of_next (exec_feed_hunt_discard h0 hb), hrest]
    simp [observe, List.replicate_succ]

end Sys2Proof.Machine

namespace Sys2Proof.Proofs
open Sys2Proof.Machine

/-! ### The obligations -/

/-- Settles O26: the byte is stored, whatever it is. -/
theorem feedInsideFrame : Obligations.FeedInsideFrame :=
  fun b _ h0 h1 =>
    ⟨_, exec_feed_append h0 h1, storeByte_fill_toNat (b := b) h1, fun _ hj => storeByte_getElem hj, rfl, rfl⟩

/-- Settles O28: FEED by the phase it meets; then each other command, which clears the frame or leaves FILL and MODE. -/
theorem phaseTransitions : Obligations.PhaseTransitions := by
  refine ⟨fun b s hle => ?_, fun i s t h => ?_⟩
  · cases hp : phase s with
    | hunt => exact feed_of_hunt b hp
    | filling => exact feed_of_filling b hp
    | complete => exact feed_of_complete b hp
    | overfill => exact feed_of_overfill b hp
    | full => exact feed_of_full b hle hp
  · cases i with
    | feed b => trivial
    | decode =>
      obtain ⟨-, rfl⟩ := execDecode_next h
      exact ⟨rfl, phase_eq_hunt_iff.mpr rfl⟩
    | rstf =>
      cases h
      exact ⟨rfl, phase_eq_hunt_iff.mpr rfl⟩
    | setmode m => exact execSetmode_phase h
    | rrcheck b0 b1 b2 => exact execRrcheck_keeps_phase h
    | status =>
      obtain ⟨-, rfl⟩ := execStatus_next h
      exact ⟨rfl, phase_congr rfl rfl⟩
    | reservedMode | reservedOp0 | reservedOp7 | reservedHigh op =>
      cases h
      exact ⟨rfl, phase_congr rfl rfl⟩

/-- Settles O52. -/
theorem markerFreeGarbageIsDiscarded : Obligations.MarkerFreeGarbageIsDiscarded :=
  fun _ bs => execAll_feed_garbage bs

/-- Settles O25. -/
theorem feedInHunt : Obligations.FeedInHunt := by
  intro b s h0
  by_cases hb : b = marker
  · subst hb
    rw [exec_feed_hunt_marker h0, storeByte_of_fill_zero h0]
    rfl
  · rw [exec_feed_hunt_discard h0 hb]
    exact congrArg _ (if_neg hb).symm

/-- Settles O27: only FILL distinguishes the two policies. -/
theorem feedIntoFullBuffer : Obligations.FeedIntoFullBuffer := by
  intro b s h
  rw [exec_feed_full h]
  cases hp : s.params.overrun with
  | hold => rw [feedOverrun_of_hold hp, ← h]; rfl
  | restart => rw [feedOverrun_of_restart hp]; rfl

end Sys2Proof.Proofs

/-! PROOFS. The statements of 42_stream_decode.md: the length check, the checksum, the channel values and their lanes, and
whole frames fed and then decoded. -/

namespace Sys2Proof.Machine

/-! ### The accepted lengths as values of FILL (R121) -/

theorem toNat_mem_accept_ch1 {n : BitVec 4} : n.toNat ∈ accept .ch1 ↔ n = 4#4 := by
  simp [accept, BitVec.toNat_eq]

theorem toNat_mem_accept_ch2 {n : BitVec 4} : n.toNat ∈ accept .ch2 ↔ n = 6#4 := by
  simp [accept, BitVec.toNat_eq]

theorem toNat_mem_accept_ch4 {n : BitVec 4} : n.toNat ∈ accept .ch4 ↔ n = 4#4 ∨ n = 6#4 ∨ n = 10#4 := by
  simp [accept, BitVec.toNat_eq]

/-! ### The frame and its last byte (R63, R123) -/

theorem frame_eq_concat {s : State} (h0 : 0 < s.fill.toNat) (h : s.fill.toNat - 1 < 10) :
    frame s = s.buf.toList.take (s.fill.toNat - 1) ++ [s.buf[s.fill.toNat - 1]] := by
  have hcell : s.buf.toList[s.fill.toNat - 1]? = some s.buf[s.fill.toNat - 1] := by simp [h]
  calc frame s
    _ = s.buf.toList.take (s.fill.toNat - 1 + 1) := by rw [frame, Nat.sub_add_cancel h0]
    _ = _ := by rw [List.take_add_one, hcell, Option.toList_some]

/-- The frame check compares the CRC of `BUF[0..FILL-2]` with `BUF[FILL-1]`. -/
theorem crcOk_frame {s : State} (hlen : s.fill.toNat ∈ accept s.mode) (h : s.fill.toNat - 1 < 10) :
    crcOk s.rom (frame s) = (crc8 s.rom (s.buf.toList.take (s.fill.toNat - 1)) == s.buf[s.fill.toNat - 1]) := by
  have h0 : 0 < s.fill.toNat := by have := accept_cases hlen; omega
  rw [frame_eq_concat h0 h, crcOk_concat]

theorem exec_decode_of_crcOk {s : State} (hlen : s.fill.toNat ∈ accept s.mode) (hcrc : crcOk s.rom (frame s) = true) :
    exec .decode s = .next (observe (respond (clearFrame s) (sampleResponse (channels s.mode)
      (fillLanes s.params.repl2 (channels s.mode) (channelValues (frame s))))) .ok) := by
  have hattempt : decodeAttempt s = (.ok, fillLanes s.params.repl2 (channels s.mode) (channelValues (frame s))) := by
    simp [decodeAttempt, hlen, hcrc]
  rw [exec_decode_of_le (accept_le_cap hlen), hattempt]

/-! ### The channel values of a buffered frame (R124) -/

theorem pairDistances_length (bs : List Byte) : (pairDistances bs).length = bs.length / 2 := by
  induction bs using pairDistances.induct with
  | case1 hi lo rest ih => simp only [pairDistances, List.length_cons, ih]; omega
  | case2 bs hshort =>
    match bs with
    | [] | [_] => simp [pairDistances]
    | hi :: lo :: rest => exact absurd rfl (hshort hi lo rest)

/-- Distance `j` is made of the bytes at the offsets `2j` and `2j + 1`. -/
theorem pairDistances_getElem? {bs : List Byte} {j : Nat} {hi lo : Byte} (hhi : bs[2 * j]? = some hi)
    (hlo : bs[2 * j + 1]? = some lo) : (pairDistances bs)[j]? = some (dist16 hi lo) := by
  induction j generalizing bs with
  | zero =>
    match bs with
    | [] | [_] => simp at hlo
    | b :: c :: rest =>
      obtain rfl : b = hi := by simpa using hhi
      obtain rfl : c = lo := by simpa using hlo
      rfl
  | succ j ih =>
    match bs with
    | [] | [_] => simp at hlo
    | b :: c :: rest => exact ih hhi hlo

section FrameValues
variable {s : State} (hle : s.fill.toNat ≤ cap)
include hle

theorem channelValues_frame_length : (channelValues (frame s)).length = (s.fill.toNat - 2) / 2 := by
  rw [channelValues, pairDistances_length, List.length_dropLast, List.length_tail, frame_length_of_le hle]
  omega

/-- Data byte `k` of the frame, between the marker and the checksum, is the cell after cell `k`. -/
theorem frame_dataByte {k i : Nat} (hki : i = k + 1) (hi : i + 1 < s.fill.toNat) (h : i < 10) :
    (frame s).tail.dropLast[k]? = some s.buf[i] := by
  subst hki
  have hin : k < (frame s).tail.length - 1 := by rw [List.length_tail, frame_length_of_le hle]; omega
  rw [List.getElem?_dropLast, if_pos hin, List.getElem?_tail, frame_getElem (by omega) h]

theorem channelValues_frame_getElem? {j : Nat} (hj : 2 * j + 3 < s.fill.toNat) (h : 2 + 2 * j < 10) :
    (channelValues (frame s))[j]? = some (dist16 s.buf[1 + 2 * j] s.buf[2 + 2 * j]) :=
  pairDistances_getElem? (frame_dataByte hle (by omega) (by omega) (by omega))
    (frame_dataByte hle (by omega) (by omega) h)

end FrameValues

theorem channelValues_frame_of_fill_four {s : State} (h : s.fill = 4#4) :
    channelValues (frame s) = [dist16 s.buf[1] s.buf[2]] := by
  have hle : s.fill.toNat ≤ cap := by simp [h, cap]
  obtain ⟨v, hv⟩ := List.length_eq_one_iff.mp
    (show (channelValues (frame s)).length = 1 by simp [channelValues_frame_length hle, h])
  have h0 := channelValues_frame_getElem? hle (j := 0) (by simp [h]) (by omega)
  simpa [hv] using h0

theorem channelValues_frame_of_fill_six {s : State} (h : s.fill = 6#4) :
    channelValues (frame s) = [dist16 s.buf[1] s.buf[2], dist16 s.buf[3] s.buf[4]] := by
  have hle : s.fill.toNat ≤ cap := by simp [h, cap]
  obtain ⟨v, w, hvw⟩ := List.length_eq_two.mp
    (show (channelValues (frame s)).length = 2 by simp [channelValues_frame_length hle, h])
  have h0 := channelValues_frame_getElem? hle (j := 0) (by simp [h]) (by omega)
  have h1 := channelValues_frame_getElem? hle (j := 1) (by simp [h]) (by omega)
  simp_all

/-! ### The lanes of the answer (R124, R71) -/

theorem fillLanes_of_length {order : LaneOrder} {n : Nat} {v : List Distance} (h : v.length = n) :
    fillLanes order n v = v := if_pos h

theorem fillLanes_four_one (order : LaneOrder) (d : Distance) : fillLanes order 4 [d] = [d, d, d, d] := by
  cases order <;> rfl

theorem fillLanes_abab_getD (d e : Distance) {j : Nat} (hj : j < 4) :
    (fillLanes .abab 4 [d, e]).getD j 0#16 = if j % 2 = 0 then d else e := by
  interval_cases j <;> rfl

theorem fillLanes_aabb_getD (d e : Distance) {j : Nat} (hj : j < 4) :
    (fillLanes .aabb 4 [d, e]).getD j 0#16 = if j / 2 = 0 then d else e := by
  interval_cases j <;> rfl

/-- A frame of the mode's own length fills its channels in buffer order and leaves the other lanes 0. -/
theorem channelValues_frame_getD {s : State} (h : s.fill.toNat = frameLen s.mode) {j : Nat} (hj : j < 4) :
    (channelValues (frame s)).getD j 0#16 =
      if j < channels s.mode then dist16 s.buf[1 + 2 * j] s.buf[2 + 2 * j] else 0#16 := by
  have hfill : s.fill.toNat = 2 + 2 * channels s.mode := h
  have hle : s.fill.toNat ≤ cap := h ▸ (frameLen_bounds s.mode).2
  split
  · rw [List.getD_eq_getElem?_getD, channelValues_frame_getElem? hle (by omega) (by omega), Option.getD_some]
  · exact List.getD_eq_default _ _ (by rw [channelValues_frame_length hle]; omega)

/-! ### Whole frames, fed and then decoded (R60, R203) -/

theorem execAll_append_of_next {is : List Instr} (js : List Instr) {s t : State} (h : execAll is s = .next t) :
    execAll (is ++ js) s = execAll js t := by
  induction is generalizing s with
  | nil => cases h; rfl
  | cons i is ih =>
    cases hi : exec i s with
    | next u =>
      rw [execAll_cons_of_next hi] at h
      rw [List.cons_append, execAll_cons_of_next hi, ih h]
    | fault r => simp [execAll, hi] at h
    | refused r => simp [execAll, hi] at h

theorem channelValues_streamFrame (rom : Rom) (ds : List Distance) : channelValues (streamFrame rom ds) = ds := by
  rw [channelValues, streamFrame_eq, streamBody, List.cons_append, List.tail_cons, List.dropLast_concat,
    pairDistances_dataBytes]

theorem crcOk_streamFrame (rom : Rom) (ds : List Distance) : crcOk rom (streamFrame rom ds) = true := by
  rw [streamFrame_eq, crcOk_concat, beq_self_eq_true]

theorem streamFrame_length (rom : Rom) (ds : List Distance) : (streamFrame rom ds).length = 2 + 2 * ds.length := by
  rw [streamFrame_eq, List.length_append, streamBody, List.length_cons, dataBytes_length, List.length_singleton]
  omega

/-- Storing bytes writes FILL, BUF and the labels only. -/
theorem StoresBytes.exists_eq {s t : State} {bs : List Byte} {os : List OutcomeLabel} (h : StoresBytes s bs os t) :
    ∃ f b o, t = { s with fill := f, buf := b, outcomes := o } :=
  ⟨t.fill, t.buf, t.outcomes,
    congrArg (fun u : State => { u with fill := t.fill, buf := t.buf, outcomes := t.outcomes }) h.others⟩

/-- Feeding a streaming frame in HUNT leaves exactly that frame in the buffer. -/
theorem execAll_feed_streamFrame {s : State} {ds : List Distance} (h0 : s.fill = 0#4) (hlen : ds.length ≤ 4) :
    ∃ f b o, execAll ((streamFrame s.rom ds).map .feed) s = .next { s with fill := f, buf := b, outcomes := o } ∧
      f.toNat = 2 + 2 * ds.length ∧
      frame { s with fill := f, buf := b, outcomes := o } = streamFrame s.rom ds := by
  have hcons : streamFrame s.rom ds = marker :: (dataBytes ds ++ [crc8 s.rom (streamBody ds)]) := rfl
  have hroom : (dataBytes ds ++ [crc8 s.rom (streamBody ds)]).length ≤ 9 := by
    rw [List.length_append, dataBytes_length, List.length_singleton]
    omega
  obtain ⟨t, ht, hst⟩ := execAll_feed_hunt h0 hroom
  rw [← hcons] at ht hst
  have hfill := hst.fill_toNat
  have hframe := hst.frame_eq
  obtain ⟨f, b, o, rfl⟩ := hst.exists_eq
  refine ⟨f, b, o, ht, ?_, ?_⟩
  · simpa [h0, streamFrame_length] using hfill
  · simpa [frame, h0] using hframe

/-- A streaming frame of an accepted length, fed in HUNT and then decoded, is answered with its own distances. -/
theorem execAll_streamFrame_decode {s : State} {ds : List Distance} (h0 : s.fill = 0#4) (hlen : ds.length ≤ 4)
    (haccept : 2 + 2 * ds.length ∈ accept s.mode) :
    ∃ t, execAll ((streamFrame s.rom ds).map .feed ++ [.decode]) s = .next t ∧
      t.responses =
        s.responses ++ [sampleResponse (channels s.mode) (fillLanes s.params.repl2 (channels s.mode) ds)] ∧
      t.outcomes.getLast? = some .ok ∧ t.fill = 0#4 ∧ t.mode = s.mode := by
  obtain ⟨f, b, o, hfeed, hfill, hframe⟩ := execAll_feed_streamFrame h0 hlen
  have hdecode := exec_decode_of_crcOk (s := { s with fill := f, buf := b, outcomes := o }) (by rwa [hfill])
    (by rw [hframe, crcOk_streamFrame])
  rw [hframe, channelValues_streamFrame] at hdecode
  exact ⟨_, (execAll_append_of_next _ hfeed).trans (execAll_cons_of_next hdecode), rfl, by simp, rfl, rfl⟩

end Sys2Proof.Machine

namespace Sys2Proof.Proofs
open Sys2Proof.Machine

/-! ### The obligations -/

/-- Settles O29: what the statement writes out for each mode says that FILL is not accepted. -/
theorem decodeLengthMismatch : Obligations.DecodeLengthMismatch := by
  intro s hle hne
  have hlen : s.fill.toNat ∉ accept s.mode := by
    cases hm : s.mode <;> rw [hm] at hne
    case ch1 => exact mt toNat_mem_accept_ch1.mp hne
    case ch2 => exact mt toNat_mem_accept_ch2.mp hne
    case ch4 =>
      rw [toNat_mem_accept_ch4]
      tauto
  rw [exec_decode_of_le hle, decodeAttempt_of_notMem hlen, sampleResponse_sentinels]
  rfl

/-- Settles O30. -/
theorem decodeChecksumMismatch : Obligations.DecodeChecksumMismatch := by
  intro s h hlen hne
  exact exec_decode_of_crcOk_false hlen (by rw [crcOk_frame hlen h, beq_eq_false_iff_ne.mpr hne])

/-- Settles O31: a lane of the answer is an entry of the output list, and that list is R124's, by the length received. -/
theorem decodeGoodFrame : Obligations.DecodeGoodFrame := by
  intro s h hlen hcrc
  have hok : crcOk s.rom (frame s) = true := by rw [crcOk_frame hlen h, beq_iff_eq.mpr hcrc]
  refine ⟨_, exec_decode_of_crcOk hlen hok, fun hown j hj => ?_, fun hmode hfill j hj => ?_,
    fun hmode hfill j hj => ?_⟩ <;> rw [packLanes_lane _ hj]
  · have hcount : (channelValues (frame s)).length = channels s.mode := by
      rw [channelValues_frame_length (accept_le_cap hlen), hown, frameLen]
      omega
    rw [fillLanes_of_length hcount, channelValues_frame_getD hown hj]
  · rw [channelValues_frame_of_fill_four hfill, hmode, channels, fillLanes_four_one]
    interval_cases j <;> rfl
  · rw [channelValues_frame_of_fill_six hfill, hmode, channels]
    cases s.params.repl2 with
    | abab => exact fillLanes_abab_getD _ _ hj
    | aabb => exact fillLanes_aabb_getD _ _ hj

/-- Settles O51: both lengths are accepted in 4-channel mode, and the lanes of the answer are the distances replicated. -/
theorem shorterFramesInFourChannelMode : Obligations.ShorterFramesInFourChannelMode := by
  intro s d e h0 hmode
  constructor
  · obtain ⟨t, ht, hresp, -, hfill, -⟩ := execAll_streamFrame_decode (s := s) (ds := [d]) h0 (by simp)
      (by simp [hmode, accept])
    rw [hmode, channels, fillLanes_four_one] at hresp
    exact ⟨t, ht, hresp, hfill⟩
  · obtain ⟨t, ht, hresp, -, hfill, -⟩ := execAll_streamFrame_decode (s := s) (ds := [d, e]) h0 (by simp)
      (by simp [hmode, accept])
    refine ⟨t, ht, ?_, hfill⟩
    rw [hresp, hmode]
    cases s.params.repl2 <;> rfl

/-- Settles O32: a legal FILL is all that DECODE needs to complete. -/
theorem decodeAlwaysClearsTheFrame : Obligations.DecodeAlwaysClearsTheFrame :=
  fun _ hle => ⟨_, _, exec_decode_of_le hle⟩

end Sys2Proof.Proofs

/-! PROOFS. The statements of 43_rr_decode.md: what RRCHECK answers where the checksum agrees and where it does not. -/

namespace Sys2Proof.Machine

theorem execRrcheck_of_crc_ne {b0 b1 b2 : Byte} {s : State} (h : crc8 s.rom [b0, b1] ≠ b2) :
    execRrcheck b0 b1 b2 s = .next (observe (respond s (.distance sentinel)) .checksumMismatch) := if_neg h

end Sys2Proof.Machine

namespace Sys2Proof.Proofs
open Sys2Proof.Machine

/-! ### The obligations -/

/-- Settles O35: the check of the third byte decides the answer and the label, and each of the two next states is `s` with
one response and one label appended. -/
theorem rrcheckResult : Obligations.RrcheckResult := by
  intro b0 b1 b2 s
  by_cases hcrc : crc8 s.rom [b0, b1] = b2
  · simp only [if_pos hcrc]
    exact execRrcheck_of_crc hcrc
  · simp only [if_neg hcrc]
    exact execRrcheck_of_crc_ne hcrc

end Sys2Proof.Proofs

/-! PROOFS. The statements of 44_control.md: SETMODE by what its code names, RSTF, the bits of the STATUS byte, and the
reserved words. -/

namespace Sys2Proof.Machine

/-! ### SETMODE (R150, R151) -/

theorem modeOfCode_three : modeOfCode 3#2 = none := rfl

theorem exec_setmode_of_modeOfCode {m : BitVec 2} {mode : Mode} (h : modeOfCode m = some mode) (s : State) :
    exec (.setmode m) s = .next (observe (clearFrame (setMode s mode)) .modeSet) := by
  simp [exec, execSetmode, h]

theorem exec_setmode_of_modeOfCode_none {m : BitVec 2} (h : modeOfCode m = none) (s : State) :
    exec (.setmode m) s = .next (reservedNoOp s) := by
  simp [exec, execSetmode, h]

/-! ### The bits of the STATUS byte (R72) -/

section StatusBits
variable (s : State)

theorem complete_eq_decide : complete s = decide (s.fill.toNat = frameLen s.mode) := beq_eq_decide _ _

/-- Bit `k` of the concatenation: FILL has bits 0 to 3, MODE has bits 4 and 5, COMPLETE is bit 6, and 0 is above it. -/
theorem statusByte_getLsbD (k : Nat) :
    (statusByte s).getLsbD k =
      if k < 4 then s.fill.getLsbD k
      else if k - 4 < 2 then (modeCode s.mode).getLsbD (k - 4)
      else if k - 4 - 2 < 1 then (BitVec.ofBool (complete s)).getLsbD (k - 4 - 2)
      else (0#1).getLsbD (k - 4 - 2 - 1) := by
  refine BitVec.getLsbD_append.trans ?_
  rw [BitVec.getLsbD_append, BitVec.getLsbD_append]

theorem statusByte_top_bit : (statusByte s).getLsbD 7 = false := by
  rw [statusByte_getLsbD]
  simp

theorem statusByte_complete_bit : (statusByte s).getLsbD 6 = complete s := by
  rw [statusByte_getLsbD]
  simp

theorem statusByte_mode_bits : (statusByte s).extractLsb' 4 2 = modeCode s.mode := by
  refine BitVec.eq_of_getLsbD_eq fun k hk => ?_
  rw [BitVec.getLsbD_extractLsb', statusByte_getLsbD]
  simp [hk]

theorem statusByte_fill_bits : (statusByte s).extractLsb' 0 4 = s.fill := by
  refine BitVec.eq_of_getLsbD_eq fun k hk => ?_
  rw [BitVec.getLsbD_extractLsb', statusByte_getLsbD]
  simp [hk]

end StatusBits

theorem exec_status_of_le {s : State} (h : s.fill.toNat ≤ cap) :
    exec .status s = .next (observe (respond s (.status (statusByte s))) .statusRead) := withLegalFill_of_le h

end Sys2Proof.Machine

namespace Sys2Proof.Proofs
open Sys2Proof.Machine

/-! ### The obligations -/

/-- Settles O39: the answer is the STATUS view, read field by field. -/
theorem statusResult : Obligations.StatusResult :=
  fun s hle => ⟨statusByte s, exec_status_of_le hle, statusByte_top_bit s,
    (statusByte_complete_bit s).trans (complete_eq_decide s), statusByte_mode_bits s, statusByte_fill_bits s⟩

/-- Settles O37: the three pairs are the codes that name a mode, and whatever MODE holds is overwritten. -/
theorem setmodeResult : Obligations.SetmodeResult := by
  intro m mode s hm
  have hcode : modeOfCode m = some mode := by
    simp only [List.mem_cons, Prod.mk.injEq, List.not_mem_nil, or_false] at hm
    obtain ⟨rfl, rfl⟩ | ⟨rfl, rfl⟩ | ⟨rfl, rfl⟩ := hm <;> rfl
  exact exec_setmode_of_modeOfCode hcode s

/-- Settles O38: the frame clear writes FILL and the label is recorded, by the definitions. -/
theorem rstfResult : Obligations.RstfResult := fun _ => rfl

/-- Settles O40: each reserved word is `reservedNoOp`, and so is SETMODE with the code 3, which names no mode. -/
theorem reservedWordsChangeNothing : Obligations.ReservedWordsChangeNothing :=
  fun _ s => ⟨rfl, rfl, rfl, rfl, exec_setmode_of_modeOfCode_none modeOfCode_three s⟩

end Sys2Proof.Proofs

/-! PROOFS. The statements of 60_exceptions.md: every command completes, no run from a legal state stops, and the one label
that each command records. -/

namespace Sys2Proof.Machine

/-! ### Steps and runs that do not stop (R170) -/

/-- A reset and waiting always complete; a command does where FILL is legal, and taking it from the port leaves FILL. -/
theorem step_completes_of_le {s : State} (h : s.fill.toNat ≤ cap) : Completes (step s) := by
  obtain ⟨-, hs⟩ | ⟨-, -, hs⟩ | ⟨w, ws, -, -, hs⟩ := step_cases s <;> rw [hs]
  · exact ⟨_, rfl⟩
  · exact ⟨_, rfl⟩
  · exact exec_completes_of_le (decode w) h

theorem runSteps_succ_of_next {n : Nat} {s t : State} (h : step s = .next t) : runSteps (n + 1) s = runSteps n t := by
  simp [runSteps, h]

/-! ### The labels of each command (the table of R171) -/

theorem execFeed_label {b : Byte} {s t : State} (h : execFeed b s = .next t) :
    ∃ o, o ∈ labelsOf (.feed b) ∧ t.outcomes = s.outcomes ++ [o] := by
  obtain ⟨-, ⟨-, -, rfl⟩ | ⟨-, -, rfl⟩ | ⟨-, -, rfl⟩ | ⟨-, -, rfl⟩ | ⟨-, -, rfl⟩⟩ := execFeed_cases h
  · exact ⟨.frameStart, by simp [labelsOf], rfl⟩
  · exact ⟨.discarded, by simp [labelsOf], rfl⟩
  · exact ⟨.appended, by simp [labelsOf], rfl⟩
  · exact ⟨.bufferOverrun, by simp [labelsOf], rfl⟩
  · exact ⟨.bufferOverrun, by simp [labelsOf], rfl⟩

theorem decodeAttempt_label_mem (s : State) : (decodeAttempt s).1 ∈ labelsOf .decode := by
  obtain ⟨-, hd⟩ | ⟨-, -, hd⟩ | ⟨-, -, hd⟩ := decodeAttempt_cases s <;> simp [hd, labelsOf]

/-- Only the code 3 names no mode (R23). -/
theorem modeOfCode_eq_none_iff {m : BitVec 2} : modeOfCode m = none ↔ m = 3#2 := by
  constructor
  · intro hnone
    by_contra hne
    obtain ⟨mode, hsome, -⟩ := modeOfCode_of_ne hne
    simp [hnone] at hsome
  · rintro rfl
    exact modeOfCode_three

theorem execSetmode_label {m : BitVec 2} {s t : State} (h : execSetmode m s = .next t) :
    ∃ o, o ∈ labelsOf (.setmode m) ∧ t.outcomes = s.outcomes ++ [o] := by
  obtain ⟨mode, hmode, hm⟩ | ⟨hnone, hm⟩ := execSetmode_cases m s <;> rw [hm] at h <;> cases h
  · have hne : m ≠ 3#2 := fun h3 => by simp [modeOfCode_eq_none_iff.mpr h3] at hmode
    exact ⟨.modeSet, by simp [labelsOf, hne], rfl⟩
  · exact ⟨.refused, by simp [labelsOf, modeOfCode_eq_none_iff.mp hnone], rfl⟩

theorem execRrcheck_label {b0 b1 b2 : Byte} {s t : State} (h : execRrcheck b0 b1 b2 s = .next t) :
    ∃ o, o ∈ labelsOf (.rrcheck b0 b1 b2) ∧ t.outcomes = s.outcomes ++ [o] := by
  obtain ⟨r, o, hr, ho⟩ := execRrcheck_next b0 b1 b2 s
  rw [hr] at h
  cases h
  exact ⟨o, by simpa [labelsOf] using ho, rfl⟩

end Sys2Proof.Machine

namespace Sys2Proof.Proofs
open Sys2Proof.Machine

/-! ### The obligations -/

/-- Settles O15: FEED, DECODE and STATUS complete because FILL is legal, the other commands in every state. -/
theorem everyCommandCompletes : Obligations.EveryCommandCompletes :=
  fun i _ hle => exec_completes_of_le i hle

/-- Settles O16, by induction on the number of steps: the first one completes, and in a legal state. -/
theorem legalRunsNeverStop : Obligations.LegalRunsNeverStop := by
  intro n
  induction n with
  | zero => exact fun s hs => ⟨s, rfl, hs⟩
  | succ n ih =>
    intro s hs
    obtain ⟨u, hu⟩ := step_completes_of_le hs.1
    obtain ⟨t, ht, hlegal⟩ := ih u (stepKeepsLegal s u hs hu)
    exact ⟨t, (runSteps_succ_of_next hu).trans ht, hlegal⟩

/-- Settles O22, command by command. -/
theorem oneLabelPerCommand : Obligations.OneLabelPerCommand := by
  intro i s t h
  cases i with
  | feed b => exact execFeed_label h
  | setmode m => exact execSetmode_label h
  | rrcheck b0 b1 b2 => exact execRrcheck_label h
  | decode =>
    obtain ⟨-, rfl⟩ := execDecode_next h
    exact ⟨(decodeAttempt s).1, decodeAttempt_label_mem s, rfl⟩
  | status =>
    obtain ⟨-, rfl⟩ := execStatus_next h
    exact ⟨.statusRead, by simp [labelsOf], rfl⟩
  | rstf =>
    cases h
    exact ⟨.frameReset, by simp [labelsOf], rfl⟩
  | reservedMode | reservedOp0 | reservedOp7 | reservedHigh op =>
    cases h
    exact ⟨.refused, by simp [labelsOf], rfl⟩

end Sys2Proof.Proofs

/-! PROOFS. The statements of 70_reset_and_hazards.md: the block reset, the first commands after it, and what the host's
discipline keeps and gains. -/

namespace Sys2Proof.Machine

/-! ### The block reset (R190) -/

/-- Whatever is pending at the port, the reset comes first. -/
theorem step_of_resetLine {s : State} (h : s.resetLine = true) : step s = .next (takeReset s) := if_pos h

/-! ### What a disciplined command finds (R195, R196, R198) -/

section Discipline

variable {s t : State}

/-- R196: FEED comes only before completion. -/
theorem fill_lt_of_disciplined_feed {b : Byte} (hle : s.fill.toNat ≤ frameLen s.mode)
    (hd : disciplined (.feed b) s = true) : s.fill.toNat < frameLen s.mode := by
  have hne : s.fill.toNat ≠ frameLen s.mode := by simpa [disciplined, complete_eq_decide] using hd
  omega

/-- R195: DECODE comes exactly at completion, so it finds an accepted length. -/
theorem fill_mem_accept_of_disciplined_decode (hd : disciplined .decode s = true) :
    s.fill.toNat ∈ accept s.mode := by
  have hfill : s.fill.toNat = frameLen s.mode := by simpa [disciplined, complete_eq_decide] using hd
  exact hfill ▸ frameLen_mem_accept s.mode

/-- R198, R154: SETMODE comes only between frames and never with the reserved code. -/
theorem disciplined_setmode_iff {m : BitVec 2} : disciplined (.setmode m) s = true ↔ m ≠ 3#2 ∧ s.fill = 0#4 := by
  simp [disciplined, claimable]

/-! ### FILL stays within the frame (R203) -/

/-- FILL grows only under FEED, which comes before completion, and the mode changes only between frames. -/
theorem fill_le_frameLen_of_disciplined {i : Instr} (hle : s.fill.toNat ≤ frameLen s.mode)
    (hd : disciplined i s = true) (h : exec i s = .next t) : t.fill.toNat ≤ frameLen t.mode := by
  obtain hmode | ⟨c, rfl, -⟩ := exec_mode_cases h
  · rw [hmode]
    obtain ⟨hfill, -⟩ | ⟨hfill, -⟩ | ⟨b, rfl, -, hfill, -⟩ := exec_fill_buf_cases h
    · rwa [hfill]
    · simp [hfill]
    · have hlt := fill_lt_of_disciplined_feed hle hd
      omega
  · obtain ⟨-, h0⟩ := disciplined_setmode_iff.mp hd
    obtain ⟨hfill, -⟩ | ⟨hfill, -⟩ | ⟨b, hfeed, -⟩ := exec_fill_buf_cases h
    · simp [hfill, h0]
    · simp [hfill]
    · cases hfeed

/-! ### The labels that discipline avoids (R203) -/

/-- The labels of a length mismatch, of an overrun and of a reserved command (R171). -/
def hazardLabels : List OutcomeLabel := [.frameLengthMismatch, .bufferOverrun, .refused]

/-- The next state has one more label, and it is none of `hazardLabels`. -/
def SafelyLabelled (s t : State) : Prop := ∃ o, t.outcomes = s.outcomes ++ [o] ∧ o ∉ hazardLabels

/-- A command whose row of R171's table has none of these labels. -/
theorem safelyLabelled_of_labelsOf {i : Instr} (hi : ∀ o ∈ labelsOf i, o ∉ hazardLabels) (h : exec i s = .next t) :
    SafelyLabelled s t := by
  obtain ⟨o, ho, hout⟩ := Proofs.oneLabelPerCommand i s t h
  exact ⟨o, hout, hi o ho⟩

/-- Below CAP the byte starts a frame, is appended, or is discarded. -/
theorem safelyLabelled_feed {b : Byte} (hlt : s.fill.toNat < cap) (h : exec (.feed b) s = .next t) :
    SafelyLabelled s t := by
  obtain ⟨-, ⟨-, -, rfl⟩ | ⟨-, -, rfl⟩ | ⟨-, -, rfl⟩ | ⟨hfull, -⟩ | ⟨hfull, -⟩⟩ := execFeed_cases h
  · exact ⟨.frameStart, rfl, by decide⟩
  · exact ⟨.discarded, rfl, by decide⟩
  · exact ⟨.appended, rfl, by decide⟩
  · omega
  · omega

/-- At an accepted length only the checksum can fail. -/
theorem safelyLabelled_decode (hlen : s.fill.toNat ∈ accept s.mode) (h : exec .decode s = .next t) :
    SafelyLabelled s t := by
  obtain ⟨-, rfl⟩ := execDecode_next h
  refine ⟨(decodeAttempt s).1, rfl, ?_⟩
  obtain ⟨hnot, -⟩ | ⟨-, -, hd⟩ | ⟨-, -, hd⟩ := decodeAttempt_cases s
  · exact absurd hlen hnot
  · simp [hd, hazardLabels]
  · simp [hd, hazardLabels]

theorem safelyLabelled_of_disciplined {i : Instr} (hle : s.fill.toNat ≤ frameLen s.mode)
    (hd : disciplined i s = true) (h : exec i s = .next t) : SafelyLabelled s t := by
  cases i with
  | feed b =>
    have hcap := (frameLen_bounds s.mode).2
    exact safelyLabelled_feed ((fill_lt_of_disciplined_feed hle hd).trans_le hcap) h
  | decode => exact safelyLabelled_decode (fill_mem_accept_of_disciplined_decode hd) h
  | setmode m =>
    obtain ⟨hm, -⟩ := disciplined_setmode_iff.mp hd
    exact safelyLabelled_of_labelsOf (by simp [labelsOf, hm, hazardLabels]) h
  | rstf | status | rrcheck b0 b1 b2 => exact safelyLabelled_of_labelsOf (by simp [labelsOf, hazardLabels]) h
  | reservedMode | reservedOp0 | reservedOp7 | reservedHigh op => cases hd

end Discipline

end Sys2Proof.Machine

namespace Sys2Proof.Proofs
open Sys2Proof.Machine

/-! ### The obligations -/

/-- Settles O50: the mode's own frame length is accepted, and as many distances as channels fill the lanes unreplicated. -/
theorem intactFrameIsDecoded : Obligations.IntactFrameIsDecoded := by
  intro s ds h0 hds
  have hframe : 2 + 2 * ds.length = frameLen s.mode := by rw [hds, frameLen]
  have hcap : frameLen s.mode ≤ 10 := (frameLen_bounds s.mode).2
  obtain ⟨t, ht, hresp, hrest⟩ := execAll_streamFrame_decode h0 (by omega) (hframe ▸ frameLen_mem_accept s.mode)
  rw [fillLanes_of_length hds] at hresp
  exact ⟨t, ht, hresp, hrest⟩

/-- Settles O53: a FILL within the frame is legal, so the command completes, within the frame and safely
labelled. -/
theorem disciplinedCommandsStayWithinFrames : Obligations.DisciplinedCommandsStayWithinFrames := by
  intro i s hle hd
  obtain ⟨t, ht⟩ := exec_completes_of_le i (hle.trans (frameLen_bounds s.mode).2)
  obtain ⟨o, hout, ho⟩ := safelyLabelled_of_disciplined hle hd ht
  exact ⟨t, o, ht, fill_le_frameLen_of_disciplined hle hd ht, hout, by simpa [hazardLabels] using ho⟩

/-- Settles O9: the step is the block reset, and the fields of its result are those of R32. -/
theorem resetIsTakenBeforePendingCommands : Obligations.ResetIsTakenBeforePendingCommands :=
  fun s hreset => ⟨takeReset s, step_of_resetLine hreset, takeReset_fill s, congrArg modeCode (takeReset_mode s),
    takeReset_rom s, takeReset_params s, takeReset_port s, takeReset_resetLine s, takeReset_responses s,
    takeReset_outcomes s⟩

/-- Settles O11: after reset the block is in HUNT, where a frame is empty and only the marker starts one. -/
theorem firstCommandsAfterReset : Obligations.FirstCommandsAfterReset := by
  rintro rom params s rfl
  have h0 := resetWith_fill rom params
  refine ⟨exec_decode_of_fill_zero h0, fun b => ?_⟩
  by_cases hb : b = marker
  · subst hb
    exact ⟨_, exec_feed_hunt_marker h0, congrArg State.fill (storeByte_of_fill_zero (b := marker) h0)⟩
  · exact ⟨_, exec_feed_hunt_discard h0 hb, (if_neg hb).symm⟩

end Sys2Proof.Proofs
